-- ==== Sys2Proof/Word.lean ====
section
/-! DEFINITION. The machine words of the K416: a byte and a two-byte field of its messages. -/

namespace Sys2Proof

/-- One byte of a message on the host port or on a probe link. -/
abbrev Byte := BitVec 8

/-- A two-byte message field (10 Formats: fields are sent most significant byte first). -/
abbrev Word := BitVec 16

end Sys2Proof
end

