-- ==== Sys2Proof/Syntax.lean ====
section
/-! DEFINITION. The commands of the K416, one constructor per row of spec/opcode_table.json. -/

namespace Sys2Proof

/-- A probe link, 0-3. -/
abbrev LinkId := Fin 4

/-- One of the two Sweep Engines. -/
inductive EngineId where
  | se0
  | se1
deriving DecidableEq, Repr

/-- The four key bytes of a host request as written, in range or not (10.1). -/
structure RawKey where
  link : Byte
  channel : Byte
  tone : Byte
  gain : Byte
deriving DecidableEq, Repr

/-- The commands. Request rows carry the body of the request message, request id first, of any length, so that every check
of R178 belongs to the meaning; the rows that split one request carry the fields the split leaves open (log 11).
Host transactions come whole or in segments: `fall` says that CS_N falls and the command byte is shifted first, `rise` that
CS_N rises after the last byte (log 5). -/
inductive Instr where
  /-- POWER_ON_RESET: RST_N is released; `csLow` is the level of CS_N at that moment (R44, R175). -/
  | powerOnReset (csLow : Bool)
  /-- RST_N_ASSERTED: RST_N is driven low (R175). -/
  | rstNAsserted
  /-- REQUEST_WRITE: command byte 6Eh, then `bytes` on MOSI (R165). -/
  | requestWrite (fall : Bool) (bytes : List Byte) (rise : Bool)
  /-- REPLY_READ: command byte 9Bh, then `count` bytes shifted on MISO (R172). -/
  | replyRead (fall : Bool) (count : Nat) (rise : Bool)
  /-- PORT_STATUS: command byte 3Ch, then `count` bytes shifted on MISO (R173). -/
  | portStatus (fall : Bool) (count : Nat) (rise : Bool)
  /-- COMMAND_BYTE_UNKNOWN: command byte `cmd`, then `count` ignored bytes (R164). -/
  | commandByteUnknown (cmd : Byte) (fall : Bool) (count : Nat) (rise : Bool)
  /-- UNKNOWN_KIND: a request whose kind names none of the twenty (R178). -/
  | unknownKind (kind : Byte) (body : List Byte)
  | create (body : List Byte)
  | load (body : List Byte)
  | read (body : List Byte)
  | retire (body : List Byte)
  /-- SET_POLICY with policy FIXED (R22). -/
  | setPolicyFixed (id : Byte) (key : RawKey) (pin : Byte)
  /-- SET_POLICY with policy AUTO (R23). -/
  | setPolicyAuto (id : Byte) (key : RawKey) (pin : Byte)
  | refresh (body : List Byte)
  | refreshScope (body : List Byte)
  | scan (body : List Byte)
  | aliasSet (body : List Byte)
  | aliasClear (body : List Byte)
  | aliasRead (body : List Byte)
  | tonePlanSet (body : List Byte)
  | tonePlanRead (body : List Byte)
  | levelSet (body : List Byte)
  | levelRead (body : List Byte)
  | configSet (body : List Byte)
  | configGet (body : List Byte)
  /-- LINK_CONTROL with action DISABLE (R156). -/
  | linkControlDisable (id link : Byte)
  /-- LINK_CONTROL with action ENABLE (R157). -/
  | linkControlEnable (id link : Byte)
  | status (body : List Byte)
  /-- SOFT_RESET with scope TABLE (R197). -/
  | softResetTable (id : Byte)
  /-- SOFT_RESET with scope FULL (R198). -/
  | softResetFull (id : Byte)
  | epochExpiry
  /-- RETRY_COUNTDOWN_EXPIRY of the record in `slot` (R55). -/
  | retryCountdownExpiry (slot : Nat)
  | dispatch
  | partnerCheck (engine : EngineId)
  | requestTimerExpiry (engine : EngineId)
  | waitTimerExpiry (engine : EngineId)
  | helloTimerExpiry (link : LinkId)
  | outboundFrameSent (link : LinkId)
  /-- FRAME_CHECK_FAILURE: `chars` arrive on PLn_RX and the frame in progress fails; `stopMissing` says that the last
  character lacked its stop bit (R141). -/
  | frameCheckFailure (link : LinkId) (chars : List Byte) (stopMissing : Bool)
  /-- INCOMPLETE_FRAME: more than 200 µs pass between two characters of a frame (R141). -/
  | incompleteFrame (link : LinkId)
  /-- HELLO_ACK, of any body length (R145, R146). -/
  | helloAck (link : LinkId) (body : List Byte)
  | lookup (link : LinkId) (tag channel tone gain : Byte)
  | calResult (link : LinkId) (sequence condition : Byte) (first second : Word)
  | calDeclined (link : LinkId) (sequence : Byte)
  | driftAlert (link : LinkId) (channelMask toneMask : Byte)
  | goodbye (link : LinkId)
  /-- UNKNOWN_FRAME_KIND: a checked frame of unknown kind, or of a known kind and wrong length (R142). -/
  | unknownFrameKind (link : LinkId) (kind : Byte) (body : List Byte)
  /-- SET_POLICY with a policy code of neither setting, or of a wrong length (R183). -/
  | setPolicyRefused (body : List Byte)
  /-- LINK_CONTROL with an action code of neither setting, or of a wrong length (R195). -/
  | linkControlRefused (body : List Byte)
  /-- SOFT_RESET with a scope code of neither setting, or of a wrong length (R197). -/
  | softResetRefused (body : List Byte)
deriving DecidableEq, Repr

end Sys2Proof
end

