-- ==== Sys2Proof/Decode.lean ====
section
/-! DEFINITION. The command that a word of the opcode table spells. The table of this block gives its rows no bits (98_reader.md:
n_rows_with_fixed 0, n_rows_with_fields 0), so no word spells a command (log 18). -/

namespace Sys2Proof

/-- The command that an instruction word spells by the table's bits: none, since no row has bits. -/
def decodeTableWord (_nbits _w : Nat) : Option Instr := none

end Sys2Proof
end

