-- ==== Sys2Proof/Config.lean ====
section
/-! DEFINITION. What the part fixes once: sizes, fixed limits, defaults, and the values the manual leaves open. -/

namespace Sys2Proof.Config

/-- Slots of the Record Table (R26). -/
abbrev slotCount : Nat := 512
/-- Points of the point pool (R38). -/
abbrev poolSize : Nat := 2048
/-- Entries the Refresh Queue holds at most (R65). -/
abbrev queueSize : Nat := 64
/-- Bytes of the Host Port's inbound buffer (R165). -/
abbrev inboundSize : Nat := 1024
/-- Messages of the Host Port's outbound queue (R169). -/
abbrev outboundSize : Nat := 48
/-- Notices of the outbound queue, the NOTICE_OVERFLOW among them (R169, R170). -/
abbrev noticeShare : Nat := 32
/-- Longest body of a host request (R168). -/
abbrev maxRequestBody : Nat := 260
/-- Longest body of a probe link frame (R140, R141). -/
abbrev maxFrameBody : Nat := 40
/-- Entries one SCAN lists at most (R42). -/
abbrev scanLimit : Nat := 16
/-- Restarts of one sweep (R95). -/
abbrev maxRestarts : Nat := 3
/-- Consecutive timeouts that take a link DOWN (R97, R152). -/
abbrev maxTimeouts : Nat := 3
/-- Protocol faults that take a link DOWN (R151). -/
abbrev maxFaults : Nat := 4
/-- The HELLO period in milliseconds (R144). -/
abbrev helloPeriod : Nat := 10
/-- Ages saturate here (R5, R51). -/
abbrev maxAge : Nat := 65535
/-- The epoch counter saturates here (R37). -/
abbrev maxEpochCount : Nat := 4294967295
/-- Streaks saturate here (R58). -/
abbrev maxStreak : Nat := 15
/-- The overflow count saturates here (R170). -/
abbrev maxOverflow : Nat := 65535
/-- The protocol level the K416 speaks and asks for (R144, R145). -/
abbrev protocolLevel : Byte := 0x01#8
/-- The part revision that STATUS reports (R196). -/
abbrev partRevision : Byte := 0x01#8

/-- FREE VALUE (log 7). Whether the message at the head of this link's outbound queue is in transmission when the n-th claim that
removes messages is taken. R143 gives a removal two results by that fact, and no event of the manual starts a transmission (R140:
frames follow one another with a gap of at least one character time). -/
opaque headInTransmission : Nat → Fin 4 → Bool

end Sys2Proof.Config
end

