-- ==== Sys2Proof/Machine/State.lean ====
section
/-! DEFINITION. The state of the K416 as plain data: every piece of state the manual gives its eight blocks, the pins, and the
queue of waiting commands; the state after power-on reset. -/

namespace Sys2Proof.Machine

/-! ## Records (chapter 1) -/

/-- The key that names one record: every field in its range (R1). -/
structure Key where
  link : LinkId
  channel : Fin 8
  tone : Fin 6
  gain : Fin 12
deriving DecidableEq, Repr

/-- The six record states (R12). -/
inductive RecState where
  | pending | valid | due | suspect | stale | faulted
deriving DecidableEq, Repr

/-- Who renews a record's values (R8). -/
inductive Policy where
  | auto | fixed
deriving DecidableEq, Repr

/-- Where a record's values came from (R2). -/
inductive Origin where
  | host | sweep
deriving DecidableEq, Repr

/-- Why a record seeks a sweep (R13). -/
inductive Cause where
  | first | requested | scheduled | retry
deriving DecidableEq, Repr

/-- Where a record stands in the refresh machinery (R13). -/
inductive Standing where
  | idle
  | waiting (cause : Cause)
  | queued (cause : Cause)
  | sweeping (engine : EngineId)
  | retry (countdown : Nat)
deriving DecidableEq, Repr

/-- The four correction values (R3). -/
structure Values where
  offsetI : Int
  offsetQ : Int
  scale : Nat
  trim : Int
deriving DecidableEq, Repr

/-- Values with their origin: origin is present exactly when values are (R2). -/
structure Holding where
  values : Values
  origin : Origin
deriving DecidableEq, Repr

/-- One measured point (R11). -/
structure Point where
  magnitude : Nat
  phase : Nat
deriving DecidableEq, Repr

/-- The measured points from which a sweep computed a record's values (R11). -/
structure Profile where
  level : Fin 4
  points : List Point
deriving DecidableEq, Repr

/-- A correction record (R2); its slot is its place in the table. -/
structure Record where
  key : Key
  state : RecState
  policy : Policy
  pin : Bool
  held : Option Holding
  generation : Byte
  age : Nat
  interval : Nat
  streak : Nat
  failCount : Nat
  standing : Standing
  lastUse : Nat
  profile : Option Profile
deriving DecidableEq, Repr

/-- The Record Table: the occupied slots with their records, in ascending slot order (R26). -/
abbrev Table := List (Nat × Record)

/-! ## Epoch Timer and Refresh Queue (chapters 3 and 4) -/

/-- The Epoch Timer: the length of the running epoch and the time left in it, in milliseconds (R47). -/
structure EpochTimer where
  length : Nat
  left : Nat
deriving DecidableEq, Repr

/-- One entry of the Refresh Queue (R65). -/
structure QEntry where
  slot : Nat
  key : Key
  cause : Cause
deriving DecidableEq, Repr

/-- The Refresh Queue: the priority section ahead of the back section, each in join order (R65). -/
structure RefreshQueue where
  prio : List QEntry
  back : List QEntry
deriving DecidableEq, Repr

/-! ## Sweep Engines (chapter 5) -/

/-- One tone plan (R83). -/
structure TonePlan where
  phaseInit : Nat
  phaseStep : Nat
  pointCount : Nat
  capture : Bool
deriving DecidableEq, Repr

/-- An engine with a sweep is in MEASURE or in WAIT (R87). -/
inductive SweepMode where
  | measure | wait
deriving DecidableEq, Repr

/-- The step of a sweep: the zero conversion, or the point of this index (R86). -/
inductive SweepStep where
  | zero
  | point (k : Nat)
deriving DecidableEq, Repr

/-- The timer an engine runs, with the milliseconds it was started with (R91, R99). -/
inductive EngineTimer where
  | stopped
  | request (ms : Nat)
  | wait (ms : Nat)
deriving DecidableEq, Repr

/-- The context of a sweep in progress (R86). In MEASURE with no awaited number the partner check is still to be made (R88). -/
structure Sweep where
  mode : SweepMode
  slot : Nat
  key : Key
  cause : Cause
  plan : TonePlan
  level : Fin 4
  restarts : Nat
  runAmplitude : Option Nat
  step : SweepStep
  zero : Option (Int × Int)
  points : List Point
  retries : Nat
  declines : Nat
  awaited : Option Byte
  timer : EngineTimer
deriving DecidableEq, Repr

/-- The failure reasons of a sweep (R106). -/
inductive FailReason where
  | saturated | invalid | spread | timeout | declined | link
deriving DecidableEq, Repr

/-- How a sweep ends (R106). -/
inductive SweepOutcome where
  | committed
  | failed (reason : FailReason)
  | superseded
  | aborted
deriving DecidableEq, Repr

/-! ## Lookup Unit (chapter 6) -/

/-- When an alias entry's target is served (R123). -/
inductive AliasMode where
  | always | fallback
deriving DecidableEq, Repr

/-- One held entry of the alias table; a tone of none is ANY (R123). -/
structure AliasEntry where
  sourceLink : LinkId
  sourceChannel : Fin 8
  tone : Option (Fin 6)
  targetLink : LinkId
  targetChannel : Fin 8
  mode : AliasMode
deriving DecidableEq, Repr

/-- The statuses a CORRECTION can carry (R121). -/
inductive LookupStatus where
  | hit | hitDue | hitSuspect | notReady | stale | fault | miss | badKey
deriving DecidableEq, Repr

/-- A CORRECTION: the answer to one LOOKUP (R121, R122). -/
structure Correction where
  tag : Fin 4
  status : LookupStatus
  aliased : Bool
  created : Bool
  generation : Byte
  values : Option Values
deriving DecidableEq, Repr

/-! ## Probe Link Controllers (chapter 7) -/

/-- The three link states (R138). -/
inductive LinkState where
  | off | down | up
deriving DecidableEq, Repr

/-- What a front end declared at its last training (R139). -/
structure Partner where
  level : Byte
  channels : Byte
  toneMask : Byte
deriving DecidableEq, Repr

/-- A CAL_REQUEST (R90): a ZERO request has no injection, a POINT request its phase and amplitude. -/
structure CalRequest where
  sequence : Byte
  channel : Fin 8
  tone : Fin 6
  gain : Fin 12
  injection : Option (Nat × Nat)
deriving DecidableEq, Repr

/-- What a probe link sends (R143). -/
inductive OutBody where
  | hello (link : LinkId)
  | correction (c : Correction)
  | calRequest (r : CalRequest)
deriving DecidableEq, Repr

/-- A message of a probe link's outbound queue; `orphan` marks one that a removal reached while its frame was in transmission:
it only finishes on the wire (R143). -/
structure OutMsg where
  body : OutBody
  orphan : Bool
deriving DecidableEq, Repr

/-- The state of one Probe Link Controller (R139), its receiver's frame in progress (R141) and the latest frame it sent. -/
structure Link where
  state : LinkState
  partner : Option Partner
  sequence : Byte
  awaited : Option Byte
  timeouts : Nat
  faults : Nat
  tags : List (Fin 4)
  out : List OutMsg
  /-- the HELLO timer: running with its period in milliseconds, or stopped -/
  hello : Option Nat
  refusalReported : Bool
  /-- the characters of the frame in progress from its sync on; empty while hunting -/
  rx : List Byte
  /-- the model's view of PLn_TX: the latest frame sent (log 17) -/
  txLast : List Byte
deriving DecidableEq, Repr

/-! ## Host Port (chapter 8) -/

/-- The reasons of LINK_STATE (R158). -/
inductive LinkReason where
  | trained | badPartner | partner | silent | protocol | host | reset
deriving DecidableEq, Repr

/-- The reasons of HOST_FRAMING (R164, R168). -/
inductive FramingReason where
  | length | csRise | command
deriving DecidableEq, Repr

/-- The notices that NOTICE_MASK selects (R169, 10.4). -/
inductive Notice where
  | linkState (link : LinkId) (state : LinkState) (reason : LinkReason) (level channels toneMask : Byte) (faults timeouts : Nat)
  | recordFaulted (key : Key) (slot : Nat) (reason : FailReason)
  | sweepEnd (engine : EngineId) (key : Key) (outcome : SweepOutcome) (level : Fin 4) (declines : Nat) (stored : Bool)
  | evicted (key : Key) (slot : Nat) (state : RecState) (newKey : Key)
  | staleEntered (key : Key) (slot : Nat) (left : RecState) (age : Nat)
  | hostFraming (reason : FramingReason) (kind : Byte) (received : Nat)
  | hostOverrun (kind : Byte) (length : Nat) (free : Nat)
deriving DecidableEq, Repr

/-- The reply statuses (10.5). -/
inductive Status where
  | ok | noRecord | keyExists | tableFull | queueFull | badKey | badValue | policyFixed | length | unknownKind | inProgress
deriving DecidableEq, Repr

/-- A reply: the request's kind and id, the status, and the reply body of R199. -/
structure Reply where
  kind : Byte
  id : Byte
  status : Status
  payload : List Byte
deriving DecidableEq, Repr

/-- A message of the Host Port's outbound queue. The count of a queued NOTICE_OVERFLOW is the port's overflow count (R170). -/
inductive HostMsg where
  | reply (r : Reply)
  | notice (n : Notice)
  | overflow
deriving DecidableEq, Repr

/-- A whole request message of the inbound buffer (R165). -/
structure Request where
  kind : Byte
  body : List Byte
deriving DecidableEq, Repr

/-- The receive state of a request write (R165). -/
inductive Receive where
  | hunt
  /-- the kind is taken; the first length byte, once held -/
  | header (kind : Byte) (lengthHigh : Option Byte)
  /-- a message that fits: its kind, its length and the body bytes written so far -/
  | body (kind : Byte) (length : Nat) (written : List Byte)
  /-- body bytes still to be consumed -/
  | discardMessage (left : Nat)
  | discardTransaction
deriving DecidableEq, Repr

/-- The transaction in progress on the SPI port (R164). -/
inductive Transaction where
  /-- CS_N is high -/
  | none
  /-- CS_N was low at the release of RST_N: the port waits for it to rise (R175) -/
  | waitRise
  | requestWrite (receive : Receive)
  /-- `rest` is what is left of the message being shifted; `ended` says that a 00h has ended the messages (R172) -/
  | replyRead (rest : List Byte) (ended : Bool)
  | portStatus (rest : List Byte)
  /-- the first byte named no kind (R164) -/
  | ignored
deriving DecidableEq, Repr

/-- The overflow state (R170). -/
inductive Overflow where
  | clear | held | queued
deriving DecidableEq, Repr

/-- The state of the Host Port (the table that opens chapter 8). -/
structure HostPort where
  requests : List Request
  inboundFree : Nat
  txn : Transaction
  out : List HostMsg
  /-- a place is held for the reply of the request being taken (R166) -/
  heldPlace : Bool
  overflow : Overflow
  overflowCount : Nat
  /-- notices counted since the first byte of the NOTICE_OVERFLOW in the reply read (R171) -/
  overflowSince : Nat
  /-- the model's view of MISO: the bytes shifted by the latest host transaction command (log 17) -/
  miso : List Byte
deriving DecidableEq, Repr

/-! ## Request Processor (chapters 9 and 10) -/

/-- The seventeen operating parameters (10.6). -/
structure Params where
  epochMs : Nat
  baseInterval : Nat
  intervalCap : Nat
  growth : Nat
  streakMin : Nat
  staleLimit : Nat
  retryDelay : Nat
  failLimit : Nat
  tolOffset : Nat
  tolScale : Nat
  tolPhase : Nat
  spreadLimit : Nat
  calTimeoutMs : Nat
  declineWaitMs : Nat
  declineLimit : Nat
  autocreateMask : Nat
  noticeMask : Nat
deriving DecidableEq, Repr

/-- The parameters' defaults (10.6). -/
def Params.defaults : Params :=
  { epochMs := 1000, baseInterval := 60, intervalCap := 1800, growth := 2, streakMin := 2, staleLimit := 3600,
    retryDelay := 5, failLimit := 3, tolOffset := 64, tolScale := 32, tolPhase := 8, spreadLimit := 40,
    calTimeoutMs := 5, declineWaitMs := 1, declineLimit := 8, autocreateMask := 0, noticeMask := 107 }

/-- The parameter store (R189). -/
structure Store where
  params : Params
  plans : Vector TonePlan 6
  levels : Vector Nat 4
  enabled : Vector Bool 4
deriving DecidableEq, Repr

/-- The store's defaults (R83, R85, R189). -/
def Store.defaults : Store :=
  { params := Params.defaults
    plans := Vector.replicate 6 { phaseInit := 0, phaseStep := 512, pointCount := 8, capture := false }
    levels := #v[40000, 20000, 10000, 5000]
    enabled := Vector.replicate 4 true }

/-! ## The part -/

/-- The state of the K416. -/
structure State where
  table : Table
  poolFree : Nat
  epochCount : Nat
  epoch : EpochTimer
  queue : RefreshQueue
  /-- SE0's sweep; none while it is IDLE (R86) -/
  se0 : Option Sweep
  /-- SE1's sweep; none while it is IDLE (R86) -/
  se1 : Option Sweep
  aliases : Vector (Option AliasEntry) 8
  links : Vector Link 4
  host : HostPort
  store : Store
  /-- the level of RST_N: high while the part runs -/
  rstN : Bool
  /-- a claim of R78's list has prompted a consideration of dispatch that has not been taken (log 3) -/
  considerDue : Bool
  /-- claims so far that have drawn free values (log 7) -/
  freeCount : Nat
  /-- the waiting commands, first in first out -/
  pending : List Instr
deriving DecidableEq, Repr

/-- Why a command stops the part: no rule of the manual does, so there is no reason (log 19). -/
inductive Fault where
deriving DecidableEq, Repr

/-- Why a command has no meaning. -/
inductive Refusal where
  /-- Raised by an arm of `exec` whose command has no meaning yet. Safe: nothing is claimed of it. No arm raises it. -/
  | notModelled (mnemonic : String)
deriving DecidableEq, Repr

/-- A Probe Link Controller at power-on reset (R161). -/
def Link.reset (l : LinkId) : Link :=
  { state := .down, partner := none, sequence := 0, awaited := none, timeouts := 0, faults := 0, tags := [],
    out := [{ body := .hello l, orphan := false }], hello := some Config.helloPeriod, refusalReported := false, rx := [],
    txLast := [] }

/-- The Host Port at power-on reset, CS_N high (R175). -/
def HostPort.reset : HostPort :=
  { requests := [], inboundFree := Config.inboundSize, txn := .none, out := [], heldPlace := false, overflow := .clear,
    overflowCount := 0, overflowSince := 0, miso := [] }

/-- The part right after power-on reset (R44, R49, R82, R115, R136, R161, R175, R189). -/
def State.reset : State :=
  { table := [], poolFree := Config.poolSize, epochCount := 0, epoch := { length := 1000, left := 1000 },
    queue := { prio := [], back := [] }, se0 := none, se1 := none, aliases := Vector.replicate 8 none,
    links := #v[Link.reset 0, Link.reset 1, Link.reset 2, Link.reset 3], host := HostPort.reset, store := Store.defaults,
    rstN := true, considerDue := false, freeCount := 0, pending := [] }

end Sys2Proof.Machine
end

