-- ==== Sys2Proof/Machine/Operands.lean ====
section
/-! DEFINITION. The encodings of chapter 10: byte order, keys, values, codes, message bodies and frames. -/

namespace Sys2Proof.Machine

/-! ## Bytes (10 opening, 10.1) -/

/-- A number as one byte. -/
def byte (n : Nat) : Byte := BitVec.ofNat 8 n

/-- A number as two bytes, most significant first. -/
def bytes2 (n : Nat) : List Byte := [byte (n / 256), byte n]

/-- A number as four bytes, most significant first. -/
def bytes4 (n : Nat) : List Byte := [byte (n / 16777216), byte (n / 65536), byte (n / 256), byte n]

/-- A signed number as two bytes, two's complement. -/
def signed2 (x : Int) : List Byte := bytes2 (BitVec.ofInt 16 x).toNat

/-- The byte of a body at a position; positions beyond a permitted length are never read (R199). -/
def byteAt (body : List Byte) (i : Nat) : Byte := body.getD i 0

/-- The two-byte unsigned field at a position. -/
def wordAt (body : List Byte) (i : Nat) : Nat := (byteAt body i).toNat * 256 + (byteAt body (i + 1)).toNat

/-- The two-byte signed field at a position. -/
def intAt (body : List Byte) (i : Nat) : Int := (BitVec.ofNat 16 (wordAt body i)).toInt

/-! ## Keys and values (10.1) -/

/-- A number as a `Fin n`, when it is in range. -/
def finOf? (n x : Nat) : Option (Fin n) := if h : x < n then some ⟨x, h⟩ else none

/-- The key of four field values, when every field is in its range (R1). -/
def keyOf? (link channel tone gain : Nat) : Option Key :=
  match finOf? 4 link, finOf? 8 channel, finOf? 6 tone, finOf? 12 gain with
  | some l, some c, some t, some g => some { link := l, channel := c, tone := t, gain := g }
  | _, _, _, _ => none

/-- The key carried at a position of a body. -/
def keyAt? (body : List Byte) (i : Nat) : Option Key :=
  keyOf? (byteAt body i).toNat (byteAt body (i + 1)).toNat (byteAt body (i + 2)).toNat (byteAt body (i + 3)).toNat

/-- The four bytes of a key. -/
def Key.bytes (k : Key) : List Byte := [byte k.link.val, byte k.channel.val, byte k.tone.val, byte k.gain.val]

/-- The four bytes of a key as written. -/
def rawKeyBytes (k : RawKey) : List Byte := [k.link, k.channel, k.tone, k.gain]

/-- The eight bytes of the four values. -/
def Values.bytes (v : Values) : List Byte := signed2 v.offsetI ++ signed2 v.offsetQ ++ bytes2 v.scale ++ signed2 v.trim

/-- The values carried at a position: refused for a scale of 0 or a phase trim outside its range (R3). -/
def valuesAt? (body : List Byte) (i : Nat) : Option Values :=
  let v : Values :=
    { offsetI := intAt body i, offsetQ := intAt body (i + 2), scale := wordAt body (i + 4), trim := intAt body (i + 6) }
  if v.scale = 0 ∨ v.trim < -2048 ∨ 2047 < v.trim then none else some v

/-! ## Codes (10.1, 10.4, 10.5) -/

def RecState.code : RecState → Byte
  | .pending => 0x00#8 | .valid => 0x01#8 | .due => 0x02#8 | .suspect => 0x03#8 | .stale => 0x04#8 | .faulted => 0x05#8

def Policy.code : Policy → Byte
  | .auto => 0x00#8 | .fixed => 0x01#8

/-- The policy of a code byte, when it names one (R200). -/
def policyOf? (b : Byte) : Option Policy :=
  if b = 0x00#8 then some .auto else if b = 0x01#8 then some .fixed else none

/-- The setting of a clear/set or off/on byte, when it names one (R200). -/
def switchOf? (b : Byte) : Option Bool :=
  if b = 0x00#8 then some false else if b = 0x01#8 then some true else none

def switchCode (b : Bool) : Byte := if b then 0x01#8 else 0x00#8

def Origin.code : Origin → Byte
  | .host => 0x00#8 | .sweep => 0x01#8

def Standing.code : Standing → Byte
  | .idle => 0x00#8 | .waiting _ => 0x01#8 | .queued _ => 0x02#8 | .sweeping _ => 0x03#8 | .retry _ => 0x04#8

def Cause.code : Cause → Byte
  | .first => 0x00#8 | .requested => 0x01#8 | .scheduled => 0x02#8 | .retry => 0x03#8

def engineCode : EngineId → Byte
  | .se0 => 0x00#8 | .se1 => 0x01#8

/-- The code of an engine's state: a sweep's mode, or IDLE. -/
def engineStateCode : Option Sweep → Byte
  | none => 0x00#8
  | some w => match w.mode with
    | .measure => 0x01#8
    | .wait => 0x02#8

def LinkState.code : LinkState → Byte
  | .off => 0x00#8 | .down => 0x01#8 | .up => 0x02#8

def aliasToneCode : Option (Fin 6) → Byte
  | some t => byte t.val
  | none => 0xFF#8

def AliasMode.code : AliasMode → Byte
  | .always => 0x00#8 | .fallback => 0x01#8

/-- The mode of a code byte, when it names one (R200). -/
def aliasModeOf? (b : Byte) : Option AliasMode :=
  if b = 0x00#8 then some .always else if b = 0x01#8 then some .fallback else none

/-- The tone of an alias entry's tone byte: 0-5, or ANY as FFh (R200). -/
def aliasToneOf? (b : Byte) : Option (Option (Fin 6)) :=
  if b = 0xFF#8 then some none else (finOf? 6 b.toNat).map some

def SweepOutcome.code : SweepOutcome → Byte
  | .committed => 0x00#8 | .failed _ => 0x01#8 | .superseded => 0x02#8 | .aborted => 0x03#8

def FailReason.code : FailReason → Byte
  | .saturated => 0x01#8 | .invalid => 0x02#8 | .spread => 0x03#8 | .timeout => 0x04#8 | .declined => 0x05#8 | .link => 0x06#8

/-- The failure reason byte of a SWEEP_END: 00h when the outcome is no failure. -/
def SweepOutcome.reasonCode : SweepOutcome → Byte
  | .failed r => r.code
  | _ => 0x00#8

def LinkReason.code : LinkReason → Byte
  | .trained => 0x00#8 | .badPartner => 0x01#8 | .partner => 0x02#8 | .silent => 0x03#8 | .protocol => 0x04#8
  | .host => 0x05#8 | .reset => 0x06#8

def FramingReason.code : FramingReason → Byte
  | .length => 0x01#8 | .csRise => 0x02#8 | .command => 0x03#8

def Status.code : Status → Byte
  | .ok => 0x00#8 | .noRecord => 0x01#8 | .keyExists => 0x02#8 | .tableFull => 0x03#8 | .queueFull => 0x04#8
  | .badKey => 0x05#8 | .badValue => 0x06#8 | .policyFixed => 0x07#8 | .length => 0x08#8 | .unknownKind => 0x09#8
  | .inProgress => 0x0A#8

def LookupStatus.code : LookupStatus → Byte
  | .hit => 0x00#8 | .hitDue => 0x01#8 | .hitSuspect => 0x02#8 | .notReady => 0x03#8 | .stale => 0x04#8 | .fault => 0x05#8
  | .miss => 0x06#8 | .badKey => 0x07#8

/-- The conditions of a CAL_RESULT; any other byte is taken as INVALID (R94, R202). -/
inductive Condition where
  | good | saturated | invalid
deriving DecidableEq, Repr

def conditionOf (b : Byte) : Condition :=
  if b = 0x00#8 then .good else if b = 0x01#8 then .saturated else .invalid

/-! ## Request kinds (10.2) -/

def kindCreate : Byte := 0x01#8
def kindLoad : Byte := 0x02#8
def kindRead : Byte := 0x03#8
def kindRetire : Byte := 0x04#8
def kindSetPolicy : Byte := 0x05#8
def kindRefresh : Byte := 0x06#8
def kindRefreshScope : Byte := 0x07#8
def kindScan : Byte := 0x08#8
def kindAliasSet : Byte := 0x09#8
def kindAliasClear : Byte := 0x0A#8
def kindAliasRead : Byte := 0x0B#8
def kindTonePlanSet : Byte := 0x0C#8
def kindTonePlanRead : Byte := 0x0D#8
def kindLevelSet : Byte := 0x0E#8
def kindLevelRead : Byte := 0x0F#8
def kindConfigSet : Byte := 0x10#8
def kindConfigGet : Byte := 0x11#8
def kindLinkControl : Byte := 0x12#8
def kindStatus : Byte := 0x13#8
def kindSoftReset : Byte := 0x14#8

/-- The body of a SET_POLICY. -/
def setPolicyBody (id : Byte) (key : RawKey) (policy : Policy) (pin : Byte) : List Byte :=
  id :: (rawKeyBytes key ++ [policy.code, pin])

/-- The body of a LINK_CONTROL; action codes DISABLE 00h, ENABLE 01h. -/
def linkControlBody (id link : Byte) (enable : Bool) : List Byte := [id, link, switchCode enable]

/-- The body of a SOFT_RESET; scope codes TABLE 00h, FULL 01h. -/
def softResetBody (id : Byte) (full : Bool) : List Byte := [id, switchCode full]

/-! ## Host messages (10.2, 10.4) -/

/-- A framed host message: kind, two length bytes, body. -/
def hostFrame (kind : Byte) (body : List Byte) : List Byte := kind :: (bytes2 body.length ++ body)

/-- The framed bytes of a reply: kind A0h, then the request's kind, its id and the status, then the reply body (R199). -/
def Reply.bytes (r : Reply) : List Byte := hostFrame 0xA0#8 (r.kind :: r.id :: r.status.code :: r.payload)

def Notice.code : Notice → Byte
  | .linkState .. => 0xE0#8
  | .recordFaulted .. => 0xE1#8
  | .sweepEnd .. => 0xE2#8
  | .evicted .. => 0xE3#8
  | .staleEntered .. => 0xE4#8
  | .hostFraming .. => 0xE8#8
  | .hostOverrun .. => 0xE9#8

/-- The body of a notice (10.4). -/
def Notice.body : Notice → List Byte
  | .linkState link state reason level channels toneMask faults timeouts =>
    [byte link.val, state.code, reason.code, level, channels, toneMask, byte faults, byte timeouts]
  | .recordFaulted key slot reason => key.bytes ++ bytes2 slot ++ [reason.code]
  | .sweepEnd engine key outcome level declines stored =>
    engineCode engine :: (key.bytes ++ [outcome.code, outcome.reasonCode, byte level.val, byte declines, switchCode stored])
  | .evicted key slot state newKey => key.bytes ++ bytes2 slot ++ [state.code] ++ newKey.bytes
  | .staleEntered key slot left age => key.bytes ++ bytes2 slot ++ [left.code] ++ bytes2 age
  | .hostFraming reason kind received => [reason.code, kind] ++ bytes2 received
  | .hostOverrun kind length free => kind :: (bytes2 length ++ bytes2 free)

/-- The framed bytes of a message of the outbound queue; `count` is the overflow count that a NOTICE_OVERFLOW carries. -/
def HostMsg.bytes (m : HostMsg) (count : Nat) : List Byte :=
  match m with
  | .reply r => r.bytes
  | .notice n => hostFrame n.code n.body
  | .overflow => hostFrame 0xEF#8 (bytes2 count)

/-! ## Probe link frames (7.2, 10.7) -/

/-- The sync byte of a probe link frame. -/
def sync : Byte := 0xD5#8

/-- One bit step of the CRC-8 with polynomial 07h. -/
def crcBit (c : Byte) : Byte := if c.msb then (c <<< 1) ^^^ 0x07#8 else c <<< 1

/-- One byte entered into the CRC, most significant bit first. -/
def crcByte (c b : Byte) : Byte :=
  crcBit (crcBit (crcBit (crcBit (crcBit (crcBit (crcBit (crcBit (c ^^^ b))))))))

/-- The check byte over kind, length and body: initial value FFh, no final inversion (R140). -/
def crc8 (bytes : List Byte) : Byte := bytes.foldl crcByte 0xFF#8

/-- A probe link frame: sync, kind, length, body, check (7.2). -/
def linkFrame (kind : Byte) (body : List Byte) : List Byte :=
  let covered := kind :: byte body.length :: body
  sync :: (covered ++ [crc8 covered])

/-- The flags byte of a CORRECTION: ALIASED in bit 0, CREATED in bit 1 (R201). -/
def Correction.flags (c : Correction) : Byte :=
  (if c.aliased then 0x01#8 else 0x00#8) ||| (if c.created then 0x02#8 else 0x00#8)

/-- The body of a CORRECTION: values follow exactly when it carries them (R201). -/
def Correction.body (c : Correction) : List Byte :=
  [byte c.tag.val, c.status.code, c.flags, c.generation] ++ (c.values.map Values.bytes).getD []

/-- The body of a CAL_REQUEST: a ZERO request has phase and amplitude 0000h (R202). -/
def CalRequest.body (r : CalRequest) : List Byte :=
  [r.sequence, if r.injection.isSome then 0x01#8 else 0x00#8, byte r.channel.val, byte r.tone.val, byte r.gain.val]
    ++ bytes2 (r.injection.getD (0, 0)).1 ++ bytes2 (r.injection.getD (0, 0)).2

/-- The frame of an outbound message (10.7). -/
def OutBody.frame : OutBody → List Byte
  | .hello link => linkFrame 0x01#8 [Config.protocolLevel, byte link.val]
  | .correction c => linkFrame 0x02#8 c.body
  | .calRequest r => linkFrame 0x03#8 r.body

def frameHelloAck : Byte := 0x11#8
def frameLookup : Byte := 0x12#8
def frameCalResult : Byte := 0x13#8
def frameCalDeclined : Byte := 0x14#8
def frameDriftAlert : Byte := 0x15#8
def frameGoodbye : Byte := 0x16#8

/-! ## The receiver of a probe link (R141) -/

/-- Hunting: every character before the first D5h is discarded. -/
def hunt (chars : List Byte) : List Byte := chars.dropWhile (· ≠ sync)

/-- What the receiver finds in the characters from a sync on. -/
inductive Judged where
  | unfinished
  | tooLong
  | badCheck
  | taken (kind : Byte) (body rest : List Byte)
deriving DecidableEq, Repr

/-- The judgment of R141 on the characters from a sync on. -/
def judgeFrame : List Byte → Judged
  | _ :: kind :: length :: more =>
    if Config.maxFrameBody < length.toNat then .tooLong
    else if more.length < length.toNat + 1 then .unfinished
    else
      let body := more.take length.toNat
      if crc8 (kind :: length :: body) = byteAt more length.toNat then .taken kind body (more.drop (length.toNat + 1))
      else .badCheck
  | _ => .unfinished

/-- The characters the receiver holds once one frame has failed or more characters have come: a failed frame is dropped and
hunting resumes at the character after its sync; a frame with no failure is held. -/
def afterFailure (chars : List Byte) (stopMissing : Bool) : List Byte :=
  if stopMissing then []
  else
    match judgeFrame (hunt chars) with
    | .tooLong => hunt (hunt chars).tail
    | .badCheck => hunt (hunt chars).tail
    | _ => hunt chars

/-- The characters the receiver holds once a frame has been taken: hunting resumes after its check byte. -/
def afterTaken (held frame : List Byte) : List Byte :=
  if frame.isPrefixOf held then hunt (held.drop frame.length) else []

end Sys2Proof.Machine
end

