-- ==== Sys2Proof/Machine/Flags.lean ====
section
/-! DEFINITION. Masks and flags: which items a mask names, which bits a mask may hold, and the classes of causes and states
that the rules test. -/

namespace Sys2Proof.Machine

/-- A one-byte mask names item k by bit k (10.1). -/
def names (mask : Byte) (k : Nat) : Bool := mask.getLsbD k

/-- A two-byte mask names item k by bit k (10.1). -/
def namesWide (mask k : Nat) : Bool := mask.testBit k

/-- A mask holds no bit outside its first n positions (R200). -/
def maskFits (mask n : Nat) : Bool := mask < 2 ^ n

/-- The NOTICE_MASK bit of a notice kind (10.5). -/
def Notice.maskBit : Notice → Nat
  | .linkState .. => 0
  | .recordFaulted .. => 1
  | .sweepEnd .. => 2
  | .evicted .. => 3
  | .staleEntered .. => 4
  | .hostFraming .. => 5
  | .hostOverrun .. => 6

/-- FIRST and REQUESTED are the priority causes (R13). -/
def Cause.isPriority : Cause → Bool
  | .first => true
  | .requested => true
  | .scheduled => false
  | .retry => false

/-- A record in VALID, DUE or SUSPECT is served with its values (R121). -/
def RecState.serves : RecState → Bool
  | .valid => true
  | .due => true
  | .suspect => true
  | _ => false

/-- The state code as a position of the state mask. -/
def RecState.index (s : RecState) : Nat := s.code.toNat

/-- The lookup status of a record's state (R12). -/
def RecState.lookupStatus : RecState → LookupStatus
  | .pending => .notReady
  | .valid => .hit
  | .due => .hitDue
  | .suspect => .hitSuspect
  | .stale => .stale
  | .faulted => .fault

/-- The cause a WAITING standing holds. -/
def Standing.waitingCause : Standing → Option Cause
  | .waiting c => some c
  | _ => none

/-- A record under sweep (R13). -/
def Standing.isSweeping : Standing → Bool
  | .sweeping _ => true
  | _ => false

/-- The present byte of the record image: bit 0 values, bit 1 profile (10.3). -/
def Record.presentByte (r : Record) : Byte :=
  (if r.held.isSome then 0x01#8 else 0x00#8) ||| (if r.profile.isSome then 0x02#8 else 0x00#8)

/-- The key passes the partner check: its channel is below the channel count and its tone is in the tone mask (R89, R120). -/
def Partner.converts (p : Partner) (channel tone : Nat) : Bool := channel < p.channels.toNat && names p.toneMask tone

end Sys2Proof.Machine
end

