-- ==== Sys2Proof/Machine/Ops.lean ====
section
/-! DEFINITION. The shared operations over the state: one update per field, the Record Table and its directory (chapter 2), and
the Host Port's outbound queue, where every notice claims its place (chapter 8). -/

namespace Sys2Proof.Machine

/-! ## One update per field -/

def State.withTable (s : State) (v : Table) : State := { s with table := v }
def State.withPool (s : State) (v : Nat) : State := { s with poolFree := v }
def State.withEpochCount (s : State) (v : Nat) : State := { s with epochCount := v }
def State.withEpoch (s : State) (v : EpochTimer) : State := { s with epoch := v }
def State.withQueue (s : State) (v : RefreshQueue) : State := { s with queue := v }
def State.withSe0 (s : State) (v : Option Sweep) : State := { s with se0 := v }
def State.withSe1 (s : State) (v : Option Sweep) : State := { s with se1 := v }
def State.withAliases (s : State) (v : Vector (Option AliasEntry) 8) : State := { s with aliases := v }
def State.withLinks (s : State) (v : Vector Link 4) : State := { s with links := v }
def State.withHost (s : State) (v : HostPort) : State := { s with host := v }
def State.withStore (s : State) (v : Store) : State := { s with store := v }
def State.withRstN (s : State) (v : Bool) : State := { s with rstN := v }
def State.withConsider (s : State) (v : Bool) : State := { s with considerDue := v }
def State.withFreeCount (s : State) (v : Nat) : State := { s with freeCount := v }
/-- The end of a claim that drew free values: the next such claim draws others (log 7). -/
def State.nextDraw (s : State) : State := s.withFreeCount (s.freeCount + 1)

/-- The parameters in force. -/
def State.params (s : State) : Params := s.store.params

/-- The sweep of an engine; none while it is IDLE. -/
def State.sweep (s : State) : EngineId → Option Sweep
  | .se0 => s.se0
  | .se1 => s.se1

/-- Set an engine's sweep. -/
def State.withSweep (s : State) (e : EngineId) (v : Option Sweep) : State :=
  match e with
  | .se0 => s.withSe0 v
  | .se1 => s.withSe1 v

/-- A Probe Link Controller. -/
def State.link (s : State) (l : LinkId) : Link := s.links[l]

/-- Set a Probe Link Controller. -/
def State.withLink (s : State) (l : LinkId) (v : Link) : State := s.withLinks (s.links.set l v)

/-- The other engine. -/
def otherEngine : EngineId → EngineId
  | .se0 => .se1
  | .se1 => .se0

/-! ## The Record Table (chapter 2) -/

/-- The record in a slot, if the slot is occupied (R26). -/
def Table.get (t : Table) (slot : Nat) : Option Record := (t.find? (fun e => e.1 == slot)).map (·.2)

/-- Place a record in a slot, keeping ascending slot order. -/
def Table.put : Table → Nat → Record → Table
  | [], slot, r => [(slot, r)]
  | (n, x) :: rest, slot, r =>
    if slot < n then (slot, r) :: (n, x) :: rest
    else if slot = n then (slot, r) :: rest
    else (n, x) :: Table.put rest slot r

/-- Free a slot. -/
def Table.erase (t : Table) (slot : Nat) : Table := t.filter (fun e => e.1 != slot)

/-- Change the record in a slot, if there is one. -/
def Table.modify (t : Table) (slot : Nat) (f : Record → Record) : Table :=
  t.map (fun e => if e.1 = slot then (e.1, f e.2) else e)

/-- A find by key: the slot and the record that hold the key, or none (R27). -/
def Table.findKey (t : Table) (k : Key) : Option (Nat × Record) := t.find? (fun e => e.2.key == k)

/-- The lowest-numbered free slot of `count` slots from `slot` on. -/
def Table.freeFrom (t : Table) : Nat → Nat → Option Nat
  | 0, _ => none
  | count + 1, slot => if (Table.get t slot).isNone then some slot else Table.freeFrom t count (slot + 1)

/-- The lowest-numbered free slot (R28). -/
def Table.lowestFree (t : Table) : Option Nat := Table.freeFrom t Config.slotCount 0

/-- The occupied slots whose records meet a condition, in ascending slot order. -/
def Table.slotsWhere (t : Table) (p : Record → Bool) : List Nat := (t.filter (fun e => p e.2)).map (·.1)

/-- The number of records in a state (R43). -/
def Table.countState (t : Table) (st : RecState) : Nat := t.countP (fun e => e.2.state == st)

/-- Points a record's profile takes of the pool (R38). -/
def Record.profilePoints (r : Record) : Nat :=
  match r.profile with
  | some p => p.points.length
  | none => 0

/-- An eviction candidate: AUTO, unpinned and not SWEEPING (R31). -/
def Record.evictable (r : Record) : Bool := r.policy == .auto && !r.pin && !r.standing.isSweeping

/-- The candidate with the smallest last-use stamp, the lowest slot among equals (R31). -/
def Table.evictionCandidate : Table → Option (Nat × Record)
  | [] => none
  | e :: rest =>
    if e.2.evictable then
      match Table.evictionCandidate rest with
      | some c => if c.2.lastUse < e.2.lastUse then some c else some e
      | none => some e
    else Table.evictionCandidate rest

/-- Change the record in a slot. -/
def State.modRecord (s : State) (slot : Nat) (f : Record → Record) : State := s.withTable (Table.modify s.table slot f)

/-- Set a record's standing. -/
def State.setStanding (s : State) (slot : Nat) (st : Standing) : State :=
  s.modRecord slot (fun r => { r with standing := st })

/-- Stamp a record's last use with the epoch counter (R36). -/
def State.stamp (s : State) (slot : Nat) : State := s.modRecord slot (fun r => { r with lastUse := s.epochCount })

/-- Free a record's profile to the point pool (R40); the record keeps none. -/
def State.freeProfile (s : State) (slot : Nat) (r : Record) : State :=
  (s.withPool (s.poolFree + r.profilePoints)).modRecord slot (fun r => { r with profile := none })

/-- A new record (R16). -/
def newRecord (key : Key) (policy : Policy) (pin : Bool) (values : Option Values) (base epochCount : Nat) : Record :=
  { key := key
    state := if values.isSome then .valid else .pending
    policy := policy
    pin := pin
    held := values.map (fun v => { values := v, origin := .host })
    generation := if values.isSome then 0x01#8 else 0x00#8
    age := 0
    interval := base
    streak := 0
    failCount := 0
    standing := if values.isNone && policy == .auto then .waiting .first else .idle
    lastUse := epochCount
    profile := none }

/-! ## The outbound queue of the Host Port (8.3) -/

/-- A notice of the outbound queue, a NOTICE_OVERFLOW among them (R169). -/
def HostMsg.isNotice : HostMsg → Bool
  | .reply _ => false
  | _ => true

/-- The notices queued (R169). -/
def HostPort.notices (h : HostPort) : Nat := h.out.countP HostMsg.isNotice

/-- A place is free: the messages queued and a place held for a reply number fewer than 48 (R170). -/
def HostPort.placeFree (h : HostPort) : Bool := h.out.length + (if h.heldPlace then 1 else 0) < Config.outboundSize

/-- A count up to 65535 (R170). -/
def countUp (n : Nat) : Nat := if n < Config.maxOverflow then n + 1 else n

/-- A notice claims a place: the decision of R170. -/
def HostPort.claim (h : HostPort) (n : Notice) : HostPort :=
  match h.overflow with
  | .clear =>
    if h.placeFree then
      if h.notices < Config.noticeShare - 1 then { h with out := h.out ++ [.notice n] }
      else { h with out := h.out ++ [.overflow], overflow := .queued, overflowCount := 1, overflowSince := 0 }
    else { h with overflow := .held, overflowCount := 1 }
  | .held => { h with overflowCount := countUp h.overflowCount }
  | .queued => { h with overflowCount := countUp h.overflowCount, overflowSince := countUp h.overflowSince }

/-- Emit a notice: none when its kind is off in NOTICE_MASK (R169), else the claim of R170. -/
def State.emit (s : State) (n : Notice) : State :=
  if namesWide s.params.noticeMask n.maskBit then s.withHost (s.host.claim n) else s

/-- The head message leaves the outbound queue: a held overflow joins in the same event (R170), and a NOTICE_OVERFLOW that leaves
clears the overflow state or is followed by one with the notices counted since its first byte (R171). -/
def HostPort.leave (h : HostPort) : HostPort :=
  match h.out with
  | [] => h
  | m :: rest =>
    match h.overflow with
    | .clear => { h with out := rest }
    | .held => { h with out := rest ++ [.overflow], overflow := .queued, overflowSince := 0 }
    | .queued =>
      if m = .overflow then
        if h.overflowSince = 0 then { h with out := rest, overflow := .clear, overflowCount := 0 }
        else { h with out := rest ++ [.overflow], overflowCount := h.overflowSince, overflowSince := 0 }
      else { h with out := rest }

/-- ATTN_N is high while the outbound queue is empty, and while RST_N is held low (R174, R175). -/
def State.attnHigh (s : State) : Bool := !s.rstN || s.host.out.isEmpty

/-- MISO is high impedance while CS_N is high, and while RST_N is held low (R164, R175). While the port waits for CS_N to rise after
a release with CS_N low, the pin counts as driven: the model's choice, the manual does not say (log 22). -/
def State.misoHighZ (s : State) : Bool := !s.rstN || s.host.txn == .none

/-! ## A command's shape -/

/-- Every command but the reset pin's acts only while RST_N is high (R175; log 6). It always answers a next state. -/
def whileRunning (s : State) (s' : State) : Host.Outcome State Fault Refusal := .next (if s.rstN then s' else s)

end Sys2Proof.Machine
end

