-- ==== Sys2Proof/Machine/Queue.lean ====
section
/-! DEFINITION. The Refresh Queue: joins, displacement, promotion, removal, the offer of a place, the REQUESTED marking, and
dispatch (chapter 4, R15). -/

namespace Sys2Proof.Machine

/-- What became of a record's place in the Refresh Queue (R67, R185). -/
inductive RefreshAction where
  | joined | joinedDisplacing | promoted | kept | held | failed
deriving DecidableEq, Repr

def RefreshAction.code : RefreshAction → Byte
  | .joined => 0x00#8 | .joinedDisplacing => 0x01#8 | .promoted => 0x02#8 | .kept => 0x03#8 | .held => 0x04#8 | .failed => 0x05#8

/-- Entries in the queue. -/
def RefreshQueue.length (q : RefreshQueue) : Nat := q.prio.length + q.back.length

/-- The entries from head to tail (R65). -/
def RefreshQueue.entries (q : RefreshQueue) : List QEntry := q.prio ++ q.back

/-- Take a record's entry out; the entries behind close up (R65). -/
def RefreshQueue.remove (q : RefreshQueue) (slot : Nat) : RefreshQueue :=
  { prio := q.prio.filter (fun e => e.slot != slot), back := q.back.filter (fun e => e.slot != slot) }

/-- Take the entries of a link out (R74). -/
def RefreshQueue.removeLink (q : RefreshQueue) (l : LinkId) : RefreshQueue :=
  { prio := q.prio.filter (fun e => e.key.link != l), back := q.back.filter (fun e => e.key.link != l) }

/-- Displacement: the newest back entry leaves and its record returns to WAITING with the entry's cause (R70). -/
def State.displace (s : State) : State :=
  match s.queue.back.getLast? with
  | some e => (s.withQueue { s.queue with back := s.queue.back.dropLast }).setStanding e.slot (.waiting e.cause)
  | none => s

/-- Place an entry at the tail of its cause's section; the record takes QUEUED, and a consideration of dispatch is due
(R68, R69, R78). -/
def State.placeEntry (s : State) (e : QEntry) : State :=
  let q := if e.cause.isPriority then { s.queue with prio := s.queue.prio ++ [e] } else { s.queue with back := s.queue.back ++ [e] }
  ((s.withQueue q).setStanding e.slot (.queued e.cause)).withConsider true

/-- A join (R68 for the priority causes, R69 for the back causes). -/
def State.join (s : State) (e : QEntry) : State × RefreshAction :=
  if s.queue.length < Config.queueSize then (s.placeEntry e, .joined)
  else if e.cause.isPriority && !s.queue.back.isEmpty then (s.displace.placeEntry e, .joinedDisplacing)
  else (s, .failed)

/-- Offer a place to a record that is WAITING with this cause: held while its link is OFF (R67). -/
def State.offer (s : State) (slot : Nat) (key : Key) (cause : Cause) : State × RefreshAction :=
  if (s.link key.link).state = .off then (s, .held) else s.join { slot := slot, key := key, cause := cause }

/-- A record takes WAITING with a cause and is offered a place at once. -/
def State.waitAndOffer (s : State) (slot : Nat) (key : Key) (cause : Cause) : State × RefreshAction :=
  (s.setStanding slot (.waiting cause)).offer slot key cause

/-- Promotion of a back entry to the tail of the priority section (R72). -/
def State.promote (s : State) (slot : Nat) (key : Key) : State :=
  let q := s.queue.remove slot
  (s.withQueue { q with prio := q.prio ++ [{ slot := slot, key := key, cause := .requested }] }).setStanding slot (.queued .requested)

/-- Who asks for a refresh by a REQUESTED marking (R15): a host REFRESH or REFRESH_SCOPE, or a drift alert or the invalidate option. -/
inductive Marker where
  | host | alert
deriving DecidableEq, Repr

/-- The REQUESTED marking of a record, by its standing (R15). None where the standing is unchanged with no queue action. -/
def State.mark (s : State) (by' : Marker) (slot : Nat) (r : Record) : State × Option RefreshAction :=
  match r.standing with
  | .idle => let (s', a) := s.waitAndOffer slot r.key .requested; (s', some a)
  | .waiting c =>
    let (s', a) := s.waitAndOffer slot r.key (if c.isPriority then c else .requested); (s', some a)
  | .queued c => if c.isPriority then (s, some .kept) else (s.promote slot r.key, some .promoted)
  | .retry _ =>
    match by' with
    | .host => let (s', a) := s.waitAndOffer slot r.key .requested; (s', some a)
    | .alert => (s, none)
  | .sweeping _ => (s, none)

/-- The marking of a drift alert or of the invalidate option: interval BASE_INTERVAL, streak 0, VALID becomes DUE, then the
standing's move (R15, R154, R191). -/
def State.markAlert (s : State) (slot : Nat) (r : Record) : State × Option RefreshAction :=
  (s.modRecord slot (fun r =>
    { r with
      interval := s.params.baseInterval
      streak := 0
      state := if r.state = .valid then .due else r.state })).mark .alert slot r

/-- A marking pass over slots in the order given, with the actions of the records marked (R80). -/
def State.markPass (s : State) (mark : State → Nat → Record → State × Option RefreshAction) :
    List Nat → State × List (Option RefreshAction)
  | [] => (s, [])
  | slot :: rest =>
    match Table.get s.table slot with
    | none => State.markPass s mark rest
    | some r =>
      let (s₁, a) := mark s slot r
      let (s₂, more) := State.markPass s₁ mark rest
      (s₂, a :: more)

/-- The offers of one pass of an epoch expiry, in the order given (R56). -/
def State.offerPass (s : State) : List Nat → State
  | [] => s
  | slot :: rest =>
    match Table.get s.table slot with
    | none => State.offerPass s rest
    | some r =>
      match r.standing with
      | .waiting c => State.offerPass (s.offer slot r.key c).1 rest
      | _ => State.offerPass s rest

/-- Actions of a pass that placed the record (R186). -/
def RefreshAction.placed : RefreshAction → Bool
  | .joined => true
  | .joinedDisplacing => true
  | .promoted => true
  | _ => false

/-- Actions of a pass that left the record WAITING (R186, R191). -/
def RefreshAction.leftWaiting : RefreshAction → Bool
  | .failed => true
  | .held => true
  | _ => false

/-- Count the marked records whose action is of a kind. -/
def countActions (p : RefreshAction → Bool) (actions : List (Option RefreshAction)) : Nat :=
  actions.countP (fun a => (a.map p).getD false)

/-! ## Dispatch (4.4) -/

/-- An engine sweeps on a link while it holds a sweep of a record of that link (R75, R87). -/
def State.sweepsOn (s : State) (e : EngineId) (l : LinkId) : Bool :=
  match s.sweep e with
  | some w => w.key.link == l
  | none => false

/-- An entry is eligible for an engine: its link is UP and the other engine does not sweep on it (R75). -/
def State.eligible (s : State) (e : EngineId) (q : QEntry) : Bool :=
  (s.link q.key.link).state == .up && !s.sweepsOn (otherEngine e) q.key.link

/-- The first eligible entry in queue order (R76). -/
def State.firstEligible (s : State) (e : EngineId) : Option QEntry := s.queue.entries.find? (s.eligible e)

/-- The context a dispatch fills, with the tone plan read once as the snapshot (R83, R88). -/
def State.newSweep (s : State) (q : QEntry) : Sweep :=
  { mode := .measure, slot := q.slot, key := q.key, cause := q.cause, plan := s.store.plans[q.key.tone], level := 0,
    restarts := 0, runAmplitude := none, step := .zero, zero := none, points := [], retries := 0, declines := 0,
    awaited := none, timer := .stopped }

/-- A dispatch of an entry to an engine (R77). -/
def State.dispatchEntry (s : State) (e : EngineId) (q : QEntry) : State :=
  ((s.withQueue (s.queue.remove q.slot)).setStanding q.slot (.sweeping e)).withSweep e (some (s.newSweep q))

/-- Dispatch offered to one engine: an idle one takes the first eligible entry, or none (R76). -/
def State.offerDispatch (s : State) (e : EngineId) : State :=
  match s.sweep e with
  | some _ => s
  | none =>
    match s.firstEligible e with
    | some q => s.dispatchEntry e q
    | none => s

/-- One consideration of dispatch: SE0 first, then SE1 against what SE0's dispatch left (R76, R78). -/
def State.consider (s : State) : State := ((s.offerDispatch .se0).offerDispatch .se1).withConsider false

end Sys2Proof.Machine
end

