-- ==== Sys2Proof/Machine/Links.lean ====
section
/-! DEFINITION. Shared operations of the Sweep Engines and the Probe Link Controllers: removals from an outbound queue, requests,
the computation, the hand-over of outcomes to the Record Table, and a link's entries into DOWN and OFF (chapters 5 and 7). -/

namespace Sys2Proof.Machine

/-! ## Removals from a link's outbound queue (R143) -/

def OutMsg.isHello (m : OutMsg) : Bool := !m.orphan && (match m.body with | .hello _ => true | _ => false)
def OutMsg.isCorrection (m : OutMsg) : Bool := !m.orphan && (match m.body with | .correction _ => true | _ => false)
def OutMsg.isCalRequest (m : OutMsg) : Bool := !m.orphan && (match m.body with | .calRequest _ => true | _ => false)
/-- Any message that is not already only finishing on the wire. -/
def OutMsg.isWaiting (m : OutMsg) : Bool := !m.orphan

/-- Remove the messages that meet a condition. Where the removal reaches the head message, the frame may be in transmission: that
is a free value, and the frame then finishes on the wire. All removals of one claim read the same value, so only the message that
stood at the head when the claim was taken can be kept; the claim ends with `State.nextDraw` (log 7). -/
def State.removeOut (s : State) (l : LinkId) (p : OutMsg → Bool) : State :=
  match (s.link l).out with
  | [] => s
  | m :: rest =>
    let others := rest.filter (fun x => !p x)
    if p m then
      let kept := if Config.headInTransmission s.freeCount l then { m with orphan := true } :: others else others
      s.withLink l { s.link l with out := kept }
    else s.withLink l { s.link l with out := m :: others }

/-! ## Requests (5.4) -/

/-- The injected phase of point k (R84). -/
def TonePlan.phaseOf (p : TonePlan) (k : Nat) : Nat := (p.phaseInit + k * p.phaseStep) % 4096

/-- The injection of a sweep's step: none for ZERO, the phase and the run amplitude for a point (R90, R202). -/
def Sweep.injection (w : Sweep) : Option (Nat × Nat) :=
  match w.step with
  | .zero => none
  | .point k => some (w.plan.phaseOf k, w.runAmplitude.getD 0)

/-- An engine makes the request of its step: it takes the link's next number, both await it, and the request joins the link's
outbound queue (R90). -/
def State.makeRequest (s : State) (e : EngineId) (w : Sweep) : State :=
  let lk := s.link w.key.link
  let r : CalRequest :=
    { sequence := lk.sequence, channel := w.key.channel, tone := w.key.tone, gain := w.key.gain, injection := w.injection }
  (s.withLink w.key.link
    { lk with
      sequence := lk.sequence + 1
      awaited := some lk.sequence
      out := lk.out ++ [{ body := .calRequest r, orphan := false }] }).withSweep e
    (some { w with mode := .measure, awaited := some lk.sequence, timer := .stopped })

/-- The start of a run of points: step point 0, the run amplitude of the sweep's level, retry count 0 (R85, R93, R95). -/
def State.startRun (s : State) (e : EngineId) (w : Sweep) : State :=
  s.makeRequest e { w with step := .point 0, runAmplitude := some s.store.levels[w.level], retries := 0 }

/-- The engine that sweeps on a link. -/
def State.sweepingEngine (s : State) (l : LinkId) : Option EngineId :=
  if s.sweepsOn .se0 l then some .se0 else if s.sweepsOn .se1 l then some .se1 else none

/-! ## Ending a sweep (5.9, 5.10) -/

/-- The engine returns to IDLE with a cleared context, its link awaits no number, and a consideration is due (R86, R107, R78). -/
def State.clearEngine (s : State) (e : EngineId) (w : Sweep) : State :=
  ((s.withSweep e none).withLink w.key.link { s.link w.key.link with awaited := none }).withConsider true

/-- A stop: a request still waiting in the outbound queue is removed, timers end with the context (R109). -/
def State.stopEngine (s : State) (e : EngineId) (w : Sweep) : State :=
  (s.removeOut w.key.link OutMsg.isCalRequest).clearEngine e w

/-- The SWEEP_END notice of an ended sweep (R108). -/
def Sweep.endNotice (w : Sweep) (e : EngineId) (outcome : SweepOutcome) (stored : Bool) : Notice :=
  .sweepEnd e w.key outcome w.level w.declines stored

/-! ## The agreement test and the commit (3.4, R17, R39) -/

/-- A phase difference wrapped into -2048..2047 (R57, R102). -/
def wrapPhase (d : Int) : Int := if d < -2048 then d + 4096 else if 2047 < d then d - 4096 else d

/-- The agreement test (R57). -/
def agrees (p : Params) (old : Option Holding) (v : Values) : Bool :=
  match old with
  | none => false
  | some h =>
    h.origin == .sweep
      && decide ((v.offsetI - h.values.offsetI).natAbs ≤ p.tolOffset)
      && decide ((v.offsetQ - h.values.offsetQ).natAbs ≤ p.tolOffset)
      && decide (((v.scale : Int) - (h.values.scale : Int)).natAbs ≤ p.tolScale)
      && decide ((wrapPhase (v.trim - h.values.trim)).natAbs ≤ p.tolPhase)

/-- The streak after a commit (R58). -/
def streakAfter (agree : Bool) (streak : Nat) : Nat := if agree then min (streak + 1) Config.maxStreak else 0

/-- The interval after a commit (R58). -/
def intervalAfter (p : Params) (agree : Bool) (streak interval : Nat) : Nat :=
  if agree then if p.streakMin ≤ streak + 1 then min (interval * p.growth) p.intervalCap else interval
  else p.baseInterval

/-- The record after a commit, its profile apart (R17). -/
def Record.committed (r : Record) (p : Params) (v : Values) : Record :=
  let a := agrees p r.held v
  { r with
    streak := streakAfter a r.streak
    interval := intervalAfter p a r.streak r.interval
    held := some { values := v, origin := .sweep }
    generation := r.generation + 1
    age := 0
    failCount := 0
    state := .valid
    standing := .idle }

/-- A commit stores a profile when capture was on and the pool, after the old profile is freed, has room (R39). -/
def storesProfile (capture : Bool) (free points : Nat) : Bool := capture && decide (points ≤ free)

/-- The Record Table takes a COMMITTED outcome: test, values, the old profile freed, the new one stored or not (R17, R39). -/
def State.takeCommit (s : State) (slot : Nat) (r : Record) (v : Values) (w : Sweep) : State :=
  let free := s.poolFree + r.profilePoints
  let stored := storesProfile w.plan.capture free w.points.length
  (s.withPool (if stored then free - w.points.length else free)).modRecord slot (fun r =>
    { r.committed s.params v with profile := if stored then some { level := w.level, points := w.points } else none })

/-- A sweep ends COMMITTED (R105, R107, R108). -/
def State.endCommitted (s : State) (e : EngineId) (w : Sweep) (v : Values) : State :=
  match Table.get s.table w.slot with
  | none => s.clearEngine e w
  | some r =>
    let stored := storesProfile w.plan.capture (s.poolFree + r.profilePoints) w.points.length
    ((s.clearEngine e w).takeCommit w.slot r v w).emit (w.endNotice e .committed stored)

/-! ## Failures at the record (R18-R20) -/

/-- The state after a counted failure below FAIL_LIMIT (R18). -/
def RecState.afterFailure : RecState → RecState
  | .valid => .suspect
  | .due => .suspect
  | st => st

/-- The Record Table takes a counted failure (R18), which faults the record at FAIL_LIMIT (R19). -/
def State.takeFailure (s : State) (slot : Nat) (r : Record) (reason : FailReason) : State :=
  if s.params.failLimit ≤ r.failCount + 1 then
    (s.modRecord slot (fun r => { r with failCount := r.failCount + 1, state := .faulted, standing := .idle })).emit
      (.recordFaulted r.key slot reason)
  else
    let s₁ := s.modRecord slot (fun r => { r with failCount := r.failCount + 1, state := r.state.afterFailure })
    if s.params.retryDelay = 0 then (s₁.waitAndOffer slot r.key .retry).1
    else s₁.setStanding slot (.retry s.params.retryDelay)

/-- A sweep ends with a counted failure (R106, R107, R108). -/
def State.endFailed (s : State) (e : EngineId) (w : Sweep) (reason : FailReason) : State :=
  match Table.get s.table w.slot with
  | none => s.clearEngine e w
  | some r => ((s.clearEngine e w).takeFailure w.slot r reason).emit (w.endNotice e (.failed reason) false)

/-- A sweep ends FAILED(LINK): WAITING with the cause at dispatch, offered at once (R20, R111). -/
def State.endLinkFailed (s : State) (e : EngineId) (w : Sweep) : State :=
  (((s.stopEngine e w).waitAndOffer w.slot w.key w.cause).1).emit (w.endNotice e (.failed .link) false)

/-- A sweep is stopped with SUPERSEDED or ABORTED (R109, R110). -/
def State.endStopped (s : State) (e : EngineId) (w : Sweep) (outcome : SweepOutcome) : State :=
  (s.stopEngine e w).emit (w.endNotice e outcome false)

/-- Before a LOAD, a SET_POLICY FIXED or a RETIRE acts on a record: its entry leaves the queue, or its sweep is stopped (R73, R109,
R110). -/
def State.withdraw (s : State) (slot : Nat) (r : Record) (outcome : SweepOutcome) : State :=
  match r.standing with
  | .queued _ => s.withQueue (s.queue.remove slot)
  | .sweeping e =>
    match s.sweep e with
    | some w => (s.endStopped e w outcome).nextDraw
    | none => s
  | _ => s

/-! ## The computation (5.8) -/

/-- The phase errors of the collected points (R102). -/
def phaseErrors (plan : TonePlan) : Nat → List Point → List Int
  | _, [] => []
  | k, p :: rest => wrapPhase ((plan.phaseOf k : Int) - (p.phase : Int)) :: phaseErrors plan (k + 1) rest

/-- The largest less the smallest of a list of errors (R102). -/
def spreadOf : List Int → Int
  | [] => 0
  | e :: rest => rest.foldl max e - rest.foldl min e

/-- The phase trim: the mean error, truncated toward zero (R103). -/
def trimOf (errors : List Int) : Int := Int.tdiv errors.sum (errors.length : Int)

/-- The mean magnitude, truncated (R104). -/
def meanMagnitude (points : List Point) : Nat := (points.map Point.magnitude).sum / points.length

/-- The scale, truncated and limited to 1-65535 (R104). -/
def scaleOf (amplitude mean : Nat) : Nat := max 1 (min 65535 (amplitude * 32768 / mean))

/-- The outcome of the computation: values, or the reason of a counted failure; the spread test comes first (R102-R105). -/
def Sweep.compute (w : Sweep) (spreadLimit : Nat) : Except FailReason Values :=
  let errors := phaseErrors w.plan 0 w.points
  if (spreadLimit : Int) < spreadOf errors then .error .spread
  else if meanMagnitude w.points = 0 then .error .invalid
  else
    .ok
      { offsetI := (w.zero.getD (0, 0)).1
        offsetQ := (w.zero.getD (0, 0)).2
        scale := scaleOf (w.runAmplitude.getD 0) (meanMagnitude w.points)
        trim := trimOf errors }

/-- The engine computes at its last point and the sweep ends with what the computation gives (R94, R105). -/
def State.computeAndEnd (s : State) (e : EngineId) (w : Sweep) : State :=
  match w.compute s.params.spreadLimit with
  | .ok v => s.endCommitted e w v
  | .error reason => s.endFailed e w reason

/-! ## Links entering and leaving their states (7.4, 7.6) -/

/-- Entry into DOWN: a HELLO joins, the HELLO timer starts, the partner refusal reported item becomes no (R144). -/
def State.enterDown (s : State) (l : LinkId) : State :=
  s.withLink l
    { s.link l with
      state := .down
      out := (s.link l).out ++ [{ body := .hello l, orphan := false }]
      hello := some Config.helloPeriod
      refusalReported := false }

/-- The LINK_STATE notice of a departure from UP, with the two counts as they stood (R155, R158). -/
def departureNotice (l : LinkId) (lk : Link) (reason : LinkReason) : Notice :=
  .linkState l .down reason 0 0 0 lk.faults lk.timeouts

/-- Steps 2 to 5 of a departure from UP (R155). -/
def State.departUp (s : State) (l : LinkId) (reason : LinkReason) : State :=
  let s₁ := s.removeOut l OutMsg.isCorrection
  let s₂ := s₁.withLink l { s₁.link l with awaited := none, tags := [], state := .down }
  (s₂.emit (departureNotice l (s₂.link l) reason)).enterDown l

/-- A link leaves UP for DOWN: its sweep ends FAILED(LINK) first (R155). -/
def State.leaveUp (s : State) (l : LinkId) (reason : LinkReason) : State :=
  let s₁ :=
    match s.sweepingEngine l with
    | some e =>
      match s.sweep e with
      | some w => s.endLinkFailed e w
      | none => s
    | none => s
  (s₁.departUp l reason).nextDraw

/-- A protocol fault on an UP link; the fourth takes it DOWN (R151). -/
def State.protocolFault (s : State) (l : LinkId) : State :=
  let s₁ := s.withLink l { s.link l with faults := (s.link l).faults + 1 }
  if Config.maxFaults ≤ (s₁.link l).faults then s₁.leaveUp l .protocol else s₁

end Sys2Proof.Machine
end

