-- ==== Sys2Proof/Machine/Requests.lean ====
section
/-! DEFINITION. How the Request Processor takes a request and answers it (R166, R177, R178). -/

namespace Sys2Proof.Machine

/-- What acting on a request gives: the state, the status and the reply body. -/
structure Answer where
  state : State
  status : Status
  payload : List Byte

/-- A request answered with another status than OK or QUEUE_FULL changes nothing (R178). -/
def State.refuse (s : State) (status : Status) : Answer := { state := s, status := status, payload := [] }

def State.accept (s : State) (payload : List Byte) : Answer := { state := s, status := .ok, payload := payload }

/-- The Request Processor can take this request now: the outbound queue has room (R166), and the request is the oldest whole one
of the inbound buffer. A request command that finds the buffer without a whole request, and CS_N high, carries its own request
write (log 4). -/
def State.canTake (s : State) (kind : Byte) (body : List Byte) : Bool :=
  decide (s.host.out.length < Config.outboundSize) &&
    match s.host.requests with
    | [] => s.host.txn == .none && decide (body.length ≤ Config.maxRequestBody)
    | r :: _ => r.kind == kind && r.body == body

/-- The claim begins: the request leaves the inbound buffer, its bytes are freed, and a place is held for its reply (R166). -/
def State.beginRequest (s : State) : State :=
  match s.host.requests with
  | [] => s.withHost { s.host with heldPlace := true }
  | r :: rest =>
    s.withHost
      { s.host with requests := rest, inboundFree := s.host.inboundFree + (3 + r.body.length), heldPlace := true }

/-- The claim ends: the reply joins behind every notice of the claim, into the place held for it (R166, R177). -/
def State.joinReply (s : State) (r : Reply) : State :=
  s.withHost { s.host with heldPlace := false, out := s.host.out ++ [.reply r] }

/-- The reply of an answer: the kind as received, the request id (00h for an empty body), the status, the body (R177, R199). -/
def Answer.reply (a : Answer) (kind : Byte) (body : List Byte) : Reply :=
  { kind := kind, id := byteAt body 0, status := a.status, payload := a.payload }

/-- Take one request, act on it and answer it in one claim; a request that cannot be taken now waits (R166). -/
def State.takeRequest (s : State) (kind : Byte) (body : List Byte) (act : List Byte → State → Answer) : State :=
  if s.canTake kind body then
    let a := act body s.beginRequest
    a.state.joinReply (a.reply kind body)
  else s

/-- Act on the record that holds a key, or answer NO_RECORD. -/
def State.onRecord (s : State) (key : Key) (act : Nat → Record → Answer) : Answer :=
  match Table.findKey s.table key with
  | none => s.refuse .noRecord
  | some (slot, r) => act slot r

end Sys2Proof.Machine
end

