-- ==== Sys2Proof/Machine/RecordRequests.lean ====
section
/-! DEFINITION. The record requests: CREATE, LOAD, READ, RETIRE, SET_POLICY, REFRESH, REFRESH_SCOPE, SCAN (9.2). -/

namespace Sys2Proof.Machine

/-! ## CREATE (R29, R179) -/

/-- A record is placed in a slot; an AUTO record without values is offered its FIRST join (R16, R28). -/
def State.createRecord (s : State) (slot : Nat) (r : Record) : State :=
  let s₁ := s.withTable (Table.put s.table slot r)
  match r.standing with
  | .waiting c => (s₁.offer slot r.key c).1
  | _ => s₁

/-- The Record Table decides a CREATE (R29). -/
def State.createClaim (s : State) (key : Key) (policy : Policy) (pin : Bool) (values : Option Values) : Answer :=
  match Table.findKey s.table key with
  | some _ => s.refuse .keyExists
  | none =>
    match Table.lowestFree s.table with
    | none => s.refuse .tableFull
    | some slot =>
      (s.createRecord slot (newRecord key policy pin values s.params.baseInterval s.epochCount)).accept (bytes2 slot)

/-- CREATE: the checks of R178 in their order, then the claim. -/
def actCreate (body : List Byte) (s : State) : Answer :=
  if body.length ≠ 7 ∧ body.length ≠ 15 then s.refuse .length
  else
    match keyAt? body 1 with
    | none => s.refuse .badKey
    | some key =>
      match policyOf? (byteAt body 5), switchOf? (byteAt body 6) with
      | some policy, some pin =>
        if body.length = 15 then
          match valuesAt? body 7 with
          | none => s.refuse .badValue
          | some v => s.createClaim key policy pin (some v)
        else s.createClaim key policy pin none
      | _, _ => s.refuse .badValue

/-- CREATE (R179). -/
def execCreate (body : List Byte) (s : State) : Host.Outcome State Fault Refusal :=
  whileRunning s (s.takeRequest kindCreate body actCreate)

/-! ## LOAD (R21, R180) -/

/-- The record after a LOAD (R21). -/
def Record.loaded (r : Record) (base : Nat) (v : Values) : Record :=
  { r with
    held := some { values := v, origin := .host }
    generation := r.generation + 1
    age := 0
    failCount := 0
    interval := base
    streak := 0
    state := .valid
    standing := .idle }

def actLoad (body : List Byte) (s : State) : Answer :=
  if body.length ≠ 13 then s.refuse .length
  else
    match keyAt? body 1 with
    | none => s.refuse .badKey
    | some key =>
      match valuesAt? body 5 with
      | none => s.refuse .badValue
      | some v =>
        s.onRecord key fun slot r =>
          (((s.withdraw slot r .superseded).freeProfile slot r).modRecord slot
            (fun r => r.loaded s.params.baseInterval v)).accept (bytes2 slot ++ [r.generation + 1])

/-- LOAD (R180). -/
def execLoad (body : List Byte) (s : State) : Host.Outcome State Fault Refusal :=
  whileRunning s (s.takeRequest kindLoad body actLoad)

/-! ## READ (R41, R181) -/

/-- The cause byte of the image: for a SWEEPING record the cause its engine holds (R41, 10.3). -/
def State.causeByte (s : State) : Standing → Byte
  | .waiting c => c.code
  | .queued c => c.code
  | .sweeping e =>
    match s.sweep e with
    | some w => w.cause.code
    | none => 0xFF#8
  | _ => 0xFF#8

/-- The engine or countdown byte of the image (10.3). -/
def Standing.detailByte : Standing → Byte
  | .sweeping e => engineCode e
  | .retry n => byte n
  | _ => 0x00#8

def Point.bytes (p : Point) : List Byte := bytes2 p.magnitude ++ bytes2 p.phase

/-- The record image (10.3). -/
def State.image (s : State) (slot : Nat) (r : Record) : List Byte :=
  bytes2 slot ++ r.key.bytes ++ [r.state.code, r.policy.code, switchCode r.pin, r.presentByte, r.generation]
    ++ bytes2 r.age ++ bytes2 r.interval ++ [byte r.streak, byte r.failCount, r.standing.code, s.causeByte r.standing,
      r.standing.detailByte] ++ bytes4 r.lastUse
    ++ (match r.held with
      | some h => h.values.bytes ++ [h.origin.code]
      | none => [])
    ++ (match r.profile with
      | some p => [byte p.level.val, byte p.points.length] ++ p.points.flatMap Point.bytes
      | none => [])

/-- A request that carries the request id and a key alone (READ, RETIRE, REFRESH). -/
def State.keyRequest (s : State) (body : List Byte) (act : Nat → Record → Answer) : Answer :=
  if body.length ≠ 5 then s.refuse .length
  else
    match keyAt? body 1 with
    | none => s.refuse .badKey
    | some key => s.onRecord key act

def actRead (body : List Byte) (s : State) : Answer :=
  s.keyRequest body fun slot r => s.accept (s.image slot r)

/-- READ (R181). -/
def execRead (body : List Byte) (s : State) : Host.Outcome State Fault Refusal :=
  whileRunning s (s.takeRequest kindRead body actRead)

/-! ## RETIRE (R34, R35, R182) -/

/-- Remove a record: its profile returns to the pool and its slot becomes free (R34). -/
def State.removeRecord (s : State) (slot : Nat) (r : Record) : State :=
  (s.withPool (s.poolFree + r.profilePoints)).withTable (Table.erase s.table slot)

def actRetire (body : List Byte) (s : State) : Answer :=
  s.keyRequest body fun slot r => ((s.withdraw slot r .aborted).removeRecord slot r).accept (bytes2 slot)

/-- RETIRE (R182). -/
def execRetire (body : List Byte) (s : State) : Host.Outcome State Fault Refusal :=
  whileRunning s (s.takeRequest kindRetire body actRetire)

/-! ## SET_POLICY (R22, R23, R183) -/

/-- The state of a record made FIXED (R22). -/
def RecState.madeFixed : RecState → RecState
  | .due => .valid
  | .stale => .valid
  | .suspect => .valid
  | st => st

/-- SET_POLICY FIXED of an AUTO record (R22), the pin with it. -/
def State.makeFixed (s : State) (slot : Nat) (r : Record) (pin : Bool) : State :=
  (s.withdraw slot r .superseded).modRecord slot fun r =>
    { r with policy := .fixed, pin := pin, standing := .idle, failCount := 0, state := r.state.madeFixed }

/-- The state of a record made AUTO, and the cause of the place it seeks (R23). -/
def Record.madeAuto (r : Record) (staleLimit : Nat) : RecState × Option Cause :=
  match r.state with
  | .pending => (.pending, some .first)
  | .valid =>
    if staleLimit ≤ r.age then (.stale, some .scheduled)
    else if r.interval ≤ r.age then (.due, some .scheduled)
    else (.valid, none)
  | st => (st, none)

/-- SET_POLICY AUTO of a FIXED record (R23), the pin with it. -/
def State.makeAuto (s : State) (slot : Nat) (r : Record) (pin : Bool) : State :=
  let m := r.madeAuto s.params.staleLimit
  let s₁ := s.modRecord slot fun r => { r with policy := .auto, pin := pin, standing := .idle, state := m.1 }
  match m.2 with
  | some c => (s₁.waitAndOffer slot r.key c).1
  | none => s₁

/-- The Record Table decides a SET_POLICY by the record's policy and the one given (R183). -/
def State.setPolicyClaim (s : State) (slot : Nat) (r : Record) (policy : Policy) (pin : Bool) : State :=
  match r.policy, policy with
  | .auto, .fixed => s.makeFixed slot r pin
  | .fixed, .auto => s.makeAuto slot r pin
  | _, _ => s.modRecord slot fun r => { r with pin := pin }

/-- The state byte of a slot's record. -/
def State.stateByte (s : State) (slot : Nat) : Byte :=
  match Table.get s.table slot with
  | some r => r.state.code
  | none => 0x00#8

def actSetPolicy (body : List Byte) (s : State) : Answer :=
  if body.length ≠ 7 then s.refuse .length
  else
    match keyAt? body 1 with
    | none => s.refuse .badKey
    | some key =>
      match policyOf? (byteAt body 5), switchOf? (byteAt body 6) with
      | some policy, some pin =>
        s.onRecord key fun slot r =>
          let s₁ := s.setPolicyClaim slot r policy pin
          s₁.accept (bytes2 slot ++ [s₁.stateByte slot])
      | _, _ => s.refuse .badValue

/-- SET_POLICY with policy FIXED (R22, R183). -/
def execSetPolicyFixed (id : Byte) (key : RawKey) (pin : Byte) (s : State) : Host.Outcome State Fault Refusal :=
  whileRunning s (s.takeRequest kindSetPolicy (setPolicyBody id key .fixed pin) actSetPolicy)

/-- SET_POLICY with policy AUTO (R23, R183). -/
def execSetPolicyAuto (id : Byte) (key : RawKey) (pin : Byte) (s : State) : Host.Outcome State Fault Refusal :=
  whileRunning s (s.takeRequest kindSetPolicy (setPolicyBody id key .auto pin) actSetPolicy)

/-- SET_POLICY refused for its policy code or its length (R183, log 11). -/
def execSetPolicyRefused (body : List Byte) (s : State) : Host.Outcome State Fault Refusal :=
  whileRunning s (s.takeRequest kindSetPolicy body actSetPolicy)

/-! ## REFRESH (R24, R184, R185) -/

/-- The record after the fresh start of a FAULTED record, its standing apart (R24). -/
def Record.restarted (r : Record) (staleLimit : Nat) : Record :=
  { r with
    failCount := 0
    state := if r.held.isNone then .pending else if r.age < staleLimit then .due else .stale }

/-- The marking or the fresh start of a REFRESH (R184). -/
def State.refreshClaim (s : State) (slot : Nat) (r : Record) : State × Option RefreshAction :=
  if r.state = .faulted then
    let (s', a) := (s.modRecord slot (fun r => r.restarted s.params.staleLimit)).waitAndOffer slot r.key .requested
    (s', some a)
  else s.mark .host slot r

def actRefresh (body : List Byte) (s : State) : Answer :=
  s.keyRequest body fun slot r =>
    if r.policy = .fixed then s.refuse .policyFixed
    else if r.standing.isSweeping then s.refuse .inProgress
    else
      match s.refreshClaim slot r with
      | (s', some a) =>
        { state := s'
          status := if a = .failed then .queueFull else .ok
          payload := bytes2 slot ++ [s'.stateByte slot, a.code] }
      | (_, none) => s.refuse .inProgress

/-- REFRESH (R184, R185). -/
def execRefresh (body : List Byte) (s : State) : Host.Outcome State Fault Refusal :=
  whileRunning s (s.takeRequest kindRefresh body actRefresh)

/-! ## REFRESH_SCOPE (R80, R186) -/

/-- The records that a REFRESH_SCOPE marks (R186). -/
def inScope (link : LinkId) (channels tones : Byte) (gains : Nat) (r : Record) : Bool :=
  r.key.link == link && names channels r.key.channel.val && names tones r.key.tone.val && namesWide gains r.key.gain.val
    && r.policy == .auto && r.state != .faulted && !r.standing.isSweeping

def actRefreshScope (body : List Byte) (s : State) : Answer :=
  if body.length ≠ 6 then s.refuse .length
  else
    match finOf? 4 (byteAt body 1).toNat with
    | none => s.refuse .badKey
    | some link =>
      if !maskFits (byteAt body 3).toNat 6 || !maskFits (wordAt body 4) 12 then s.refuse .badValue
      else
        let slots := Table.slotsWhere s.table (inScope link (byteAt body 2) (byteAt body 3) (wordAt body 4))
        let pass := s.markPass (fun s slot r => s.mark .host slot r) slots
        pass.1.accept
          (bytes2 (countActions RefreshAction.placed pass.2) ++ bytes2 (countActions RefreshAction.leftWaiting pass.2)
            ++ bytes2 (countActions (· == .kept) pass.2))

/-- REFRESH_SCOPE (R186). -/
def execRefreshScope (body : List Byte) (s : State) : Host.Outcome State Fault Refusal :=
  whileRunning s (s.takeRequest kindRefreshScope body actRefreshScope)

/-! ## SCAN (R42, R187) -/

/-- The matching records from a start slot on, in ascending slot order. -/
def Table.matching (t : Table) (start : Nat) (states links : Byte) : List (Nat × Record) :=
  t.filter fun e => decide (start ≤ e.1) && names states e.2.state.index && names links e.2.key.link.val

/-- The next slot of a SCAN: one above the last slot examined when 16 records were listed, else 512 (R42). -/
def scanNext (listed : List (Nat × Record)) : Nat :=
  match listed.getLast? with
  | some e => if listed.length = Config.scanLimit then e.1 + 1 else Config.slotCount
  | none => Config.slotCount

def scanEntry (e : Nat × Record) : List Byte := bytes2 e.1 ++ e.2.key.bytes ++ [e.2.state.code]

def actScan (body : List Byte) (s : State) : Answer :=
  if body.length ≠ 5 then s.refuse .length
  else if Config.slotCount < wordAt body 1 || !maskFits (byteAt body 3).toNat 6 || !maskFits (byteAt body 4).toNat 4 then
    s.refuse .badValue
  else
    let listed := (Table.matching s.table (wordAt body 1) (byteAt body 3) (byteAt body 4)).take Config.scanLimit
    s.accept (byte listed.length :: (listed.flatMap scanEntry ++ bytes2 (scanNext listed)))

/-- SCAN (R187). -/
def execScan (body : List Byte) (s : State) : Host.Outcome State Fault Refusal :=
  whileRunning s (s.takeRequest kindScan body actScan)

end Sys2Proof.Machine
end

