-- ==== Sys2Proof/Machine/StoreRequests.lean ====
section
/-! DEFINITION. The alias requests and the requests of the parameter store: ALIAS_SET, ALIAS_CLEAR, ALIAS_READ, TONE_PLAN_SET,
TONE_PLAN_READ, LEVEL_SET, LEVEL_READ, CONFIG_SET, CONFIG_GET (6.9, 9.3, 9.4). -/

namespace Sys2Proof.Machine

/-! ## The alias table (R123, R132, R133, R188) -/

/-- The links and channels of an alias entry (check 3 of R178, R132). -/
def aliasEnds? (body : List Byte) : Option ((LinkId × Fin 8) × (LinkId × Fin 8)) :=
  match finOf? 4 (byteAt body 2).toNat, finOf? 8 (byteAt body 3).toNat, finOf? 4 (byteAt body 5).toNat,
    finOf? 8 (byteAt body 6).toNat with
  | some sl, some sc, some tl, some tc => some ((sl, sc), (tl, tc))
  | _, _, _, _ => none

def actAliasSet (body : List Byte) (s : State) : Answer :=
  if body.length ≠ 8 then s.refuse .length
  else
    match aliasEnds? body with
    | none => s.refuse .badKey
    | some (source, target) =>
      match finOf? 8 (byteAt body 1).toNat, aliasToneOf? (byteAt body 4), aliasModeOf? (byteAt body 7) with
      | some index, some tone, some mode =>
        if source = target then s.refuse .badValue
        else
          (s.withAliases (s.aliases.set index
            (some
              { sourceLink := source.1, sourceChannel := source.2, tone := tone, targetLink := target.1,
                targetChannel := target.2, mode := mode }))).accept [byteAt body 1]
      | _, _, _ => s.refuse .badValue

/-- ALIAS_SET (R132, R188). -/
def execAliasSet (body : List Byte) (s : State) : Host.Outcome State Fault Refusal :=
  whileRunning s (s.takeRequest kindAliasSet body actAliasSet)

/-- A request that carries the request id and an index alone (ALIAS_CLEAR, ALIAS_READ). -/
def State.indexRequest (s : State) (body : List Byte) (act : Fin 8 → Answer) : Answer :=
  if body.length ≠ 2 then s.refuse .length
  else
    match finOf? 8 (byteAt body 1).toNat with
    | none => s.refuse .badValue
    | some index => act index

def actAliasClear (body : List Byte) (s : State) : Answer :=
  s.indexRequest body fun index => (s.withAliases (s.aliases.set index none)).accept [byteAt body 1]

/-- ALIAS_CLEAR (R133, R188). -/
def execAliasClear (body : List Byte) (s : State) : Host.Outcome State Fault Refusal :=
  whileRunning s (s.takeRequest kindAliasClear body actAliasClear)

/-- The present byte and the six entry fields of ALIAS_READ; FFh for an empty entry (R199). -/
def aliasEntryBytes : Option AliasEntry → List Byte
  | none => 0x00#8 :: List.replicate 6 0xFF#8
  | some e =>
    [0x01#8, byte e.sourceLink.val, byte e.sourceChannel.val, aliasToneCode e.tone, byte e.targetLink.val,
      byte e.targetChannel.val, e.mode.code]

def actAliasRead (body : List Byte) (s : State) : Answer :=
  s.indexRequest body fun index => s.accept (byteAt body 1 :: aliasEntryBytes s.aliases[index])

/-- ALIAS_READ (R133, R188). -/
def execAliasRead (body : List Byte) (s : State) : Host.Outcome State Fault Refusal :=
  whileRunning s (s.takeRequest kindAliasRead body actAliasRead)

/-! ## Tone plans (R83, R190, R191) -/

/-- The plan of a TONE_PLAN_SET, when every setting is in its range (R190). -/
def planAt? (body : List Byte) : Option TonePlan :=
  match switchOf? (byteAt body 7) with
  | none => none
  | some capture =>
    let p : TonePlan :=
      { phaseInit := wordAt body 2, phaseStep := wordAt body 4, pointCount := (byteAt body 6).toNat, capture := capture }
    if 4095 < p.phaseInit ∨ p.phaseStep = 0 ∨ 4095 < p.phaseStep ∨ p.pointCount < 2 ∨ 16 < p.pointCount then none else some p

/-- The records that the invalidate option marks (R191). -/
def invalidated (tone : Fin 6) (r : Record) : Bool := r.key.tone == tone && r.policy == .auto && r.state.serves

def actTonePlanSet (body : List Byte) (s : State) : Answer :=
  if body.length ≠ 9 then s.refuse .length
  else
    match finOf? 6 (byteAt body 1).toNat with
    | none => s.refuse .badKey
    | some tone =>
      match planAt? body, switchOf? (byteAt body 8) with
      | some plan, some invalidate =>
        let s₁ := s.withStore { s.store with plans := s.store.plans.set tone plan }
        if invalidate then
          let pass := s₁.markPass State.markAlert (Table.slotsWhere s₁.table (invalidated tone))
          pass.1.accept (byteAt body 1 :: (bytes2 pass.2.length ++ bytes2 (countActions RefreshAction.leftWaiting pass.2)))
        else s₁.accept (byteAt body 1 :: (bytes2 0 ++ bytes2 0))
      | _, _ => s.refuse .badValue

/-- TONE_PLAN_SET (R190, R191). -/
def execTonePlanSet (body : List Byte) (s : State) : Host.Outcome State Fault Refusal :=
  whileRunning s (s.takeRequest kindTonePlanSet body actTonePlanSet)

def actTonePlanRead (body : List Byte) (s : State) : Answer :=
  if body.length ≠ 2 then s.refuse .length
  else
    match finOf? 6 (byteAt body 1).toNat with
    | none => s.refuse .badKey
    | some tone =>
      let p := s.store.plans[tone]
      s.accept (byteAt body 1 :: (bytes2 p.phaseInit ++ bytes2 p.phaseStep ++ [byte p.pointCount, switchCode p.capture]))

/-- TONE_PLAN_READ (R190). -/
def execTonePlanRead (body : List Byte) (s : State) : Host.Outcome State Fault Refusal :=
  whileRunning s (s.takeRequest kindTonePlanRead body actTonePlanRead)

/-! ## Injection levels (R85, R192) -/

def actLevelSet (body : List Byte) (s : State) : Answer :=
  if body.length ≠ 4 then s.refuse .length
  else
    match finOf? 4 (byteAt body 1).toNat with
    | none => s.refuse .badValue
    | some level =>
      if wordAt body 2 = 0 then s.refuse .badValue
      else
        (s.withStore { s.store with levels := s.store.levels.set level (wordAt body 2) }).accept
          (byteAt body 1 :: bytes2 (wordAt body 2))

/-- LEVEL_SET (R192). -/
def execLevelSet (body : List Byte) (s : State) : Host.Outcome State Fault Refusal :=
  whileRunning s (s.takeRequest kindLevelSet body actLevelSet)

def actLevelRead (body : List Byte) (s : State) : Answer :=
  if body.length ≠ 2 then s.refuse .length
  else
    match finOf? 4 (byteAt body 1).toNat with
    | none => s.refuse .badValue
    | some level => s.accept (byteAt body 1 :: bytes2 s.store.levels[level])

/-- LEVEL_READ (R192). -/
def execLevelRead (body : List Byte) (s : State) : Host.Outcome State Fault Refusal :=
  whileRunning s (s.takeRequest kindLevelRead body actLevelRead)

/-! ## Operating parameters (3.6, R193, R194, 10.6) -/

/-- The parameter ids 01h-11h (10.6). -/
inductive ParamId where
  | epochMs | baseInterval | intervalCap | growth | streakMin | staleLimit | retryDelay | failLimit | tolOffset | tolScale
  | tolPhase | spreadLimit | calTimeoutMs | declineWaitMs | declineLimit | autocreateMask | noticeMask
deriving DecidableEq, Repr

/-- The parameter of an id byte, when it names one (R200). -/
def paramIdOf? (b : Byte) : Option ParamId :=
  match b.toNat with
  | 1 => some .epochMs
  | 2 => some .baseInterval
  | 3 => some .intervalCap
  | 4 => some .growth
  | 5 => some .streakMin
  | 6 => some .staleLimit
  | 7 => some .retryDelay
  | 8 => some .failLimit
  | 9 => some .tolOffset
  | 10 => some .tolScale
  | 11 => some .tolPhase
  | 12 => some .spreadLimit
  | 13 => some .calTimeoutMs
  | 14 => some .declineWaitMs
  | 15 => some .declineLimit
  | 16 => some .autocreateMask
  | 17 => some .noticeMask
  | _ => none

/-- The value of a parameter in the store. -/
def Params.get (p : Params) : ParamId → Nat
  | .epochMs => p.epochMs
  | .baseInterval => p.baseInterval
  | .intervalCap => p.intervalCap
  | .growth => p.growth
  | .streakMin => p.streakMin
  | .staleLimit => p.staleLimit
  | .retryDelay => p.retryDelay
  | .failLimit => p.failLimit
  | .tolOffset => p.tolOffset
  | .tolScale => p.tolScale
  | .tolPhase => p.tolPhase
  | .spreadLimit => p.spreadLimit
  | .calTimeoutMs => p.calTimeoutMs
  | .declineWaitMs => p.declineWaitMs
  | .declineLimit => p.declineLimit
  | .autocreateMask => p.autocreateMask
  | .noticeMask => p.noticeMask

/-- Write a parameter. -/
def Params.set (p : Params) (id : ParamId) (v : Nat) : Params :=
  match id with
  | .epochMs => { p with epochMs := v }
  | .baseInterval => { p with baseInterval := v }
  | .intervalCap => { p with intervalCap := v }
  | .growth => { p with growth := v }
  | .streakMin => { p with streakMin := v }
  | .staleLimit => { p with staleLimit := v }
  | .retryDelay => { p with retryDelay := v }
  | .failLimit => { p with failLimit := v }
  | .tolOffset => { p with tolOffset := v }
  | .tolScale => { p with tolScale := v }
  | .tolPhase => { p with tolPhase := v }
  | .spreadLimit => { p with spreadLimit := v }
  | .calTimeoutMs => { p with calTimeoutMs := v }
  | .declineWaitMs => { p with declineWaitMs := v }
  | .declineLimit => { p with declineLimit := v }
  | .autocreateMask => { p with autocreateMask := v }
  | .noticeMask => { p with noticeMask := v }

/-- A number lies in a range, both ends included. -/
def within (low high v : Nat) : Bool := decide (low ≤ v) && decide (v ≤ high)

/-- The value is in the parameter's range and keeps BASE_INTERVAL ≤ INTERVAL_CAP < STALE_LIMIT (R60, R193, 10.6). -/
def Params.accepts (p : Params) (id : ParamId) (v : Nat) : Bool :=
  match id with
  | .epochMs => within 10 60000 v
  | .baseInterval => within 1 65533 v && decide (v ≤ p.intervalCap)
  | .intervalCap => decide (p.baseInterval ≤ v) && decide (v < p.staleLimit)
  | .growth => within 1 4 v
  | .streakMin => within 0 15 v
  | .staleLimit => decide (p.intervalCap < v) && decide (v ≤ 65535)
  | .retryDelay => within 0 255 v
  | .failLimit => within 1 7 v
  | .tolOffset => within 0 32767 v
  | .tolScale => within 0 65535 v
  | .tolPhase => within 0 2047 v
  | .spreadLimit => within 0 4095 v
  | .calTimeoutMs => within 1 255 v
  | .declineWaitMs => within 1 255 v
  | .declineLimit => within 0 255 v
  | .autocreateMask => maskFits v 4
  | .noticeMask => maskFits v 7

/-- Set the interval of every record (R61, R62). -/
def Table.mapInterval (t : Table) (f : Nat → Nat) : Table := t.map fun e => (e.1, { e.2 with interval := f e.2.interval })

/-- The intervals after an accepted change: a raised BASE_INTERVAL lifts lower ones (R61), a lowered INTERVAL_CAP lowers higher
ones (R62); no other change moves one. -/
def State.moveIntervals (s : State) (id : ParamId) (v : Nat) : State :=
  match id with
  | .baseInterval => s.withTable (Table.mapInterval s.table (fun i => if s.params.baseInterval < v then max i v else i))
  | .intervalCap => s.withTable (Table.mapInterval s.table (fun i => if v < s.params.intervalCap then min i v else i))
  | _ => s

def actConfigSet (body : List Byte) (s : State) : Answer :=
  if body.length ≠ 4 then s.refuse .length
  else
    match paramIdOf? (byteAt body 1) with
    | none => s.refuse .badValue
    | some id =>
      if s.params.accepts id (wordAt body 2) then
        let s₁ := s.moveIntervals id (wordAt body 2)
        (s₁.withStore { s₁.store with params := s₁.params.set id (wordAt body 2) }).accept
          (byteAt body 1 :: bytes2 (wordAt body 2))
      else s.refuse .badValue

/-- CONFIG_SET (R193). -/
def execConfigSet (body : List Byte) (s : State) : Host.Outcome State Fault Refusal :=
  whileRunning s (s.takeRequest kindConfigSet body actConfigSet)

def actConfigGet (body : List Byte) (s : State) : Answer :=
  if body.length ≠ 2 then s.refuse .length
  else
    match paramIdOf? (byteAt body 1) with
    | none => s.refuse .badValue
    | some id => s.accept (byteAt body 1 :: bytes2 (s.params.get id))

/-- CONFIG_GET (R194). -/
def execConfigGet (body : List Byte) (s : State) : Host.Outcome State Fault Refusal :=
  whileRunning s (s.takeRequest kindConfigGet body actConfigGet)

end Sys2Proof.Machine
end

