-- ==== Sys2Proof/Machine/ControlRequests.lean ====
section
/-! DEFINITION. LINK_CONTROL, STATUS and SOFT_RESET, and the requests whose kind is unknown (9.5 to 9.7, R178). -/

namespace Sys2Proof.Machine

/-! ## LINK_CONTROL (R156, R157, R195) -/

/-- Write a link's setting in the link enable mask (R189). -/
def State.enableLink (s : State) (l : LinkId) (v : Bool) : State :=
  s.withStore { s.store with enabled := s.store.enabled.set l v }

/-- The records of entries that left the queue take WAITING with the causes the entries held (R74). -/
def State.waitAll (s : State) : List QEntry → State
  | [] => s
  | q :: rest => State.waitAll (s.setStanding q.slot (.waiting q.cause)) rest

/-- Every entry of a link leaves the queue and its record is held WAITING (R74). -/
def State.dropLinkEntries (s : State) (l : LinkId) : State :=
  (s.withQueue (s.queue.removeLink l)).waitAll (s.queue.entries.filter (fun q => q.key.link == l))

/-- The sweep of a link that is disabled ends ABORTED; its record is held WAITING with the cause at dispatch (R20, R110). -/
def State.abortForDisable (s : State) (l : LinkId) : State :=
  match s.sweepingEngine l with
  | none => s
  | some e =>
    match s.sweep e with
    | none => s
    | some w =>
      ((s.stopEngine e w).setStanding w.slot (.waiting w.cause)).emit (w.endNotice e .aborted false)

/-- Step 3 of a disable: awaited number, tags, HELLO timer and outbound queue; the receiver stops and drops its frame (R141, R156). -/
def State.quietLink (s : State) (l : LinkId) : State :=
  let s₁ := s.removeOut l OutMsg.isWaiting
  s₁.withLink l { s₁.link l with awaited := none, tags := [], hello := none, rx := [], state := .off }

/-- A LINK_STATE notice with reason HOST (R158). -/
def hostNotice (l : LinkId) (st : LinkState) : Notice := .linkState l st .host 0 0 0 0 0

/-- LINK_CONTROL DISABLE (R156). -/
def State.disableLink (s : State) (l : LinkId) : State :=
  let s₁ := s.enableLink l false
  match (s.link l).state with
  | .off => s₁
  | .down => (((s₁.dropLinkEntries l).quietLink l).emit (hostNotice l .off)).nextDraw
  | .up => ((((s₁.abortForDisable l).dropLinkEntries l).quietLink l).emit (hostNotice l .off)).nextDraw

/-- The receiver starts hunting (R141, R157). -/
def State.startReceiver (s : State) (l : LinkId) : State := s.withLink l { s.link l with rx := [] }

/-- LINK_CONTROL ENABLE (R157). -/
def State.reenableLink (s : State) (l : LinkId) : State :=
  let s₁ := s.enableLink l true
  match (s.link l).state with
  | .off => ((s₁.startReceiver l).enterDown l).emit (hostNotice l .down)
  | _ => s₁

def actLinkControl (body : List Byte) (s : State) : Answer :=
  if body.length ≠ 3 then s.refuse .length
  else
    match finOf? 4 (byteAt body 1).toNat with
    | none => s.refuse .badKey
    | some l =>
      match switchOf? (byteAt body 2) with
      | none => s.refuse .badValue
      | some enable =>
        let s₁ := if enable then s.reenableLink l else s.disableLink l
        s₁.accept [byteAt body 1, (s₁.link l).state.code]

/-- LINK_CONTROL with action DISABLE (R156, R195). -/
def execLinkControlDisable (id link : Byte) (s : State) : Host.Outcome State Fault Refusal :=
  whileRunning s (s.takeRequest kindLinkControl (linkControlBody id link false) actLinkControl)

/-- LINK_CONTROL with action ENABLE (R157, R195). -/
def execLinkControlEnable (id link : Byte) (s : State) : Host.Outcome State Fault Refusal :=
  whileRunning s (s.takeRequest kindLinkControl (linkControlBody id link true) actLinkControl)

/-- LINK_CONTROL refused for its action code or its length (R195, log 11). -/
def execLinkControlRefused (body : List Byte) (s : State) : Host.Outcome State Fault Refusal :=
  whileRunning s (s.takeRequest kindLinkControl body actLinkControl)

/-! ## STATUS (R43, R81, R196) -/

/-- An engine's state and the key of its record, FFh in each byte while it is IDLE (R196, R199). -/
def engineStatusBytes (w : Option Sweep) : List Byte :=
  engineStateCode w :: (match w with
    | some w => w.key.bytes
    | none => List.replicate 4 0xFF#8)

/-- The 37 bytes of the STATUS reply (R199). -/
def State.statusReport (s : State) : List Byte :=
  bytes2 s.table.length
    ++ [RecState.pending, .valid, .due, .suspect, .stale, .faulted].flatMap (fun st => bytes2 (Table.countState s.table st))
    ++ bytes2 s.poolFree ++ bytes4 s.epochCount ++ [byte s.queue.length, byte s.queue.prio.length]
    ++ engineStatusBytes s.se0 ++ engineStatusBytes s.se1
    ++ [(s.link 0).state.code, (s.link 1).state.code, (s.link 2).state.code, (s.link 3).state.code, Config.partRevision]

def actStatus (body : List Byte) (s : State) : Answer :=
  if body.length ≠ 1 then s.refuse .length else s.accept s.statusReport

/-- STATUS (R196). -/
def execStatus (body : List Byte) (s : State) : Host.Outcome State Fault Refusal :=
  whileRunning s (s.takeRequest kindStatus body actStatus)

/-! ## SOFT_RESET (R116, R117, R162, R163, R197, R198) -/

/-- An engine stops without an outcome (R116). -/
def State.haltEngine (s : State) (e : EngineId) : State :=
  match s.sweep e with
  | some w => s.stopEngine e w
  | none => s

/-- Each link's awaited sequence is cleared and an unsent CAL_REQUEST removed (R162). -/
def State.clearRequests (s : State) (l : LinkId) : State :=
  let s₁ := s.removeOut l OutMsg.isCalRequest
  s₁.withLink l { s₁.link l with awaited := none }

/-- The table, the pool and the Refresh Queue are cleared, without consideration of dispatch (R45, R82). -/
def State.clearTable (s : State) : State :=
  (((s.withTable []).withPool Config.poolSize).withQueue { prio := [], back := [] }).withConsider false

/-- SOFT_RESET TABLE (R197). -/
def State.softResetTable (s : State) : State :=
  let s₁ := (s.haltEngine .se0).haltEngine .se1
  ((((s₁.clearRequests 0).clearRequests 1).clearRequests 2).clearRequests 3).clearTable

/-- What SOFT_RESET FULL leaves of a link's items, whatever its state was (R163). -/
def Link.afterFullReset (lk : Link) : Link := { lk with partner := none, faults := 0, timeouts := 0, refusalReported := false }

/-- A link at SOFT_RESET FULL (R163). -/
def State.resetLink (s : State) (l : LinkId) : State :=
  let s₁ :=
    match (s.link l).state with
    | .up => s.departUp l .reset
    | .down => (s.removeOut l OutMsg.isHello).enterDown l
    | .off => ((s.startReceiver l).enterDown l).emit (.linkState l .down .reset 0 0 0 0 0)
  s₁.withLink l (s₁.link l).afterFullReset

/-- SOFT_RESET FULL (R198): engines, table and queue, store and aliases, Epoch Timer, links. -/
def State.softResetFull (s : State) : State :=
  let s₁ := s.softResetTable.withEpochCount 0
  let s₂ := (s₁.withStore Store.defaults).withAliases (Vector.replicate 8 none)
  let s₃ := s₂.withEpoch { length := Params.defaults.epochMs, left := Params.defaults.epochMs }
  (((s₃.resetLink 0).resetLink 1).resetLink 2).resetLink 3

def actSoftReset (body : List Byte) (s : State) : Answer :=
  if body.length ≠ 2 then s.refuse .length
  else
    match switchOf? (byteAt body 1) with
    | none => s.refuse .badValue
    | some full => (if full then s.softResetFull else s.softResetTable).nextDraw.accept [byteAt body 1]

/-- SOFT_RESET with scope TABLE (R197). -/
def execSoftResetTable (id : Byte) (s : State) : Host.Outcome State Fault Refusal :=
  whileRunning s (s.takeRequest kindSoftReset (softResetBody id false) actSoftReset)

/-- SOFT_RESET with scope FULL (R198). -/
def execSoftResetFull (id : Byte) (s : State) : Host.Outcome State Fault Refusal :=
  whileRunning s (s.takeRequest kindSoftReset (softResetBody id true) actSoftReset)

/-- SOFT_RESET refused for its scope code or its length (R197, log 11). -/
def execSoftResetRefused (body : List Byte) (s : State) : Host.Outcome State Fault Refusal :=
  whileRunning s (s.takeRequest kindSoftReset body actSoftReset)

/-! ## Unknown kinds (R178) -/

/-- The request of a kind byte, if the kind names one of the twenty. -/
def actOf? (kind : Byte) : Option (List Byte → State → Answer) :=
  match kind.toNat with
  | 1 => some actCreate
  | 2 => some actLoad
  | 3 => some actRead
  | 4 => some actRetire
  | 5 => some actSetPolicy
  | 6 => some actRefresh
  | 7 => some actRefreshScope
  | 8 => some actScan
  | 9 => some actAliasSet
  | 10 => some actAliasClear
  | 11 => some actAliasRead
  | 12 => some actTonePlanSet
  | 13 => some actTonePlanRead
  | 14 => some actLevelSet
  | 15 => some actLevelRead
  | 16 => some actConfigSet
  | 17 => some actConfigGet
  | 18 => some actLinkControl
  | 19 => some actStatus
  | 20 => some actSoftReset
  | _ => none

/-- A request acted on by its kind byte: UNKNOWN_KIND where the kind names none (R178). -/
def actByKind (kind : Byte) (body : List Byte) (s : State) : Answer :=
  match actOf? kind with
  | some act => act body s
  | none => s.refuse .unknownKind

/-- UNKNOWN_KIND (R165, R178). -/
def execUnknownKind (kind : Byte) (body : List Byte) (s : State) : Host.Outcome State Fault Refusal :=
  whileRunning s (s.takeRequest kind body (actByKind kind))

end Sys2Proof.Machine
end

