-- ==== Sys2Proof/Machine/HostTransactions.lean ====
section
/-! DEFINITION. The reset pin and the SPI transactions of the Host Port: POWER_ON_RESET, RST_N_ASSERTED, REQUEST_WRITE,
REPLY_READ, PORT_STATUS, COMMAND_BYTE_UNKNOWN (chapter 8). -/

namespace Sys2Proof.Machine

/-! ## Receiving requests (8.2) -/

/-- Set the transaction in progress. -/
def State.withTxn (s : State) (t : Transaction) : State := s.withHost { s.host with txn := t }

/-- A message becomes a request that the Request Processor can take (R165). -/
def State.storeRequest (s : State) (kind : Byte) (body : List Byte) : State :=
  s.withHost { s.host with requests := s.host.requests ++ [{ kind := kind, body := body }], txn := .requestWrite .hunt }

/-- The length of a message is complete and is judged: framing (R168), then fit (R167). -/
def State.judgeLength (s : State) (kind : Byte) (length : Nat) : State :=
  if Config.maxRequestBody < length then
    (s.withTxn (.requestWrite .discardTransaction)).emit (.hostFraming .length kind 3)
  else if 3 + length ≤ s.host.inboundFree then
    let s₁ := s.withHost { s.host with inboundFree := s.host.inboundFree - (3 + length) }
    if length = 0 then s₁.storeRequest kind [] else s₁.withTxn (.requestWrite (.body kind length []))
  else
    (s.withTxn (.requestWrite (if length = 0 then .hunt else .discardMessage length))).emit
      (.hostOverrun kind length s.host.inboundFree)

/-- One MOSI byte of a request write, by the receive state (R165). -/
def State.receiveByte (s : State) (r : Receive) (b : Byte) : State :=
  match r with
  | .hunt => if b = 0x00#8 then s else s.withTxn (.requestWrite (.header b none))
  | .header kind none => s.withTxn (.requestWrite (.header kind (some b)))
  | .header kind (some high) => s.judgeLength kind (high.toNat * 256 + b.toNat)
  | .body kind length written =>
    if written.length + 1 < length then s.withTxn (.requestWrite (.body kind length (written ++ [b])))
    else s.storeRequest kind (written ++ [b])
  | .discardMessage left => s.withTxn (.requestWrite (if left ≤ 1 then .hunt else .discardMessage (left - 1)))
  | .discardTransaction => s

/-- The MOSI bytes of a segment of a request write. -/
def State.receiveBytes (s : State) : List Byte → State
  | [] => s
  | b :: rest =>
    match s.host.txn with
    | .requestWrite r => State.receiveBytes (s.receiveByte r b) rest
    | _ => s

/-! ## Reading (8.4) -/

/-- One byte of a reply read (R172); a NOTICE_OVERFLOW carries the count at its first byte (R171). -/
def State.shiftReply (s : State) (rest : List Byte) (ended : Bool) : State × Byte :=
  if ended then (s, 0x00#8)
  else
    match rest with
    | [b] => ((s.withHost s.host.leave).withTxn (.replyRead [] false), b)
    | b :: more => (s.withTxn (.replyRead more false), b)
    | [] =>
      match s.host.out with
      | [] => (s.withTxn (.replyRead [] true), 0x00#8)
      | m :: _ =>
        let frame := m.bytes s.host.overflowCount
        let since := if m = .overflow then 0 else s.host.overflowSince
        (s.withHost { s.host with overflowSince := since, txn := .replyRead frame.tail false }, byteAt frame 0)

/-- The bytes of a segment of a reply read, in the order shifted. -/
def State.shiftReplies (s : State) : Nat → State × List Byte
  | 0 => (s, [])
  | n + 1 =>
    match s.host.txn with
    | .replyRead rest ended =>
      let (s₁, b) := s.shiftReply rest ended
      let (s₂, more) := State.shiftReplies s₁ n
      (s₂, b :: more)
    | _ => (s, [])

/-- The five bytes of the port status (R173, R199). -/
def HostPort.statusBytes (h : HostPort) : List Byte :=
  bytes2 h.inboundFree ++ [byte h.out.length, byte h.notices, if h.overflow = .clear then 0x00#8 else 0x01#8]

/-! ## CS_N and the command byte (8.1) -/

/-- A rising edge of CS_N: a message in reception is a framing error (R168), anything else ends cleanly. -/
def State.csRise (s : State) : State :=
  let s₁ := s.withTxn .none
  match s.host.txn with
  | .requestWrite (.header kind high) => s₁.emit (.hostFraming .csRise kind (if high.isSome then 2 else 1))
  | .requestWrite (.body kind length written) =>
    (s₁.withHost { s₁.host with inboundFree := s₁.host.inboundFree + (3 + length) }).emit
      (.hostFraming .csRise kind (3 + written.length))
  | _ => s₁

/-- The transaction that a first byte selects (R164). A command byte that names no kind emits HOST_FRAMING. -/
def State.openWith (s : State) (cmd : Byte) : State :=
  if cmd = 0x6E#8 then s.withTxn (.requestWrite .hunt)
  else if cmd = 0x9B#8 then s.withTxn (.replyRead [] false)
  else if cmd = 0x3C#8 then s.withTxn (.portStatus s.host.statusBytes)
  else (s.withTxn .ignored).emit (.hostFraming .command cmd 0)

/-- A falling edge of CS_N and the command byte. A transaction still in progress has ended by a rise before (log 5). -/
def State.csFall (s : State) (cmd : Byte) : State :=
  (if s.host.txn = .none then s else s.csRise).openWith cmd

/-- What a segment leaves on MISO, and the rise of CS_N at its end: 00h for the command byte of an opening segment, then the bytes
shifted. The segments give no bytes while the port waits for CS_N to rise after a release with CS_N low: the model's choice, the
manual does not say what MISO then carries (log 22). -/
def State.endSegment (s : State) (fall rise : Bool) (shifted : List Byte) : State :=
  let s₁ := s.withHost { s.host with miso := (if fall then [0x00#8] else []) ++ shifted }
  if rise then s₁.csRise else s₁

/-- The bytes MISO shifts in a segment of a transaction that is no read. -/
def zeros (n : Nat) : List Byte := List.replicate n 0x00#8

/-- A segment of a request write, MISO shifting 00h (R164, R165). A segment without a fall continues the request write in
progress; where none is, its bytes go unread. -/
def State.writeSegment (s : State) (fall : Bool) (bytes : List Byte) (rise : Bool) : State :=
  let s₁ := if fall then s.csFall 0x6E#8 else s
  match s₁.host.txn with
  | .requestWrite _ => (s₁.receiveBytes bytes).endSegment fall rise (zeros bytes.length)
  | .waitRise => s₁.endSegment false rise []
  | _ => s₁

/-- A segment of a reply read (R172). -/
def State.readSegment (s : State) (fall : Bool) (count : Nat) (rise : Bool) : State :=
  let s₁ := if fall then s.csFall 0x9B#8 else s
  match s₁.host.txn with
  | .replyRead _ _ => (s₁.shiftReplies count).1.endSegment fall rise (s₁.shiftReplies count).2
  | .waitRise => s₁.endSegment false rise []
  | _ => s₁

/-- A segment of a port status (R173): the five bytes taken at the command byte, then 00h. -/
def State.statusSegment (s : State) (fall : Bool) (count : Nat) (rise : Bool) : State :=
  let s₁ := if fall then s.csFall 0x3C#8 else s
  match s₁.host.txn with
  | .portStatus rest =>
    (s₁.withTxn (.portStatus (rest.drop count))).endSegment fall rise (rest.take count ++ zeros (count - rest.length))
  | .waitRise => s₁.endSegment false rise []
  | _ => s₁

/-- A segment of a transaction whose first byte names no kind (R164). -/
def State.ignoredSegment (s : State) (cmd : Byte) (fall : Bool) (count : Nat) (rise : Bool) : State :=
  let s₁ := if fall then s.csFall cmd else s
  match s₁.host.txn with
  | .ignored => s₁.endSegment fall rise (zeros count)
  | .waitRise => s₁.endSegment false rise []
  | _ => s₁

/-! ## The commands -/

/-- POWER_ON_RESET: every block starts in its power-on state (R25, R44, R49, R82, R115, R136, R161, R175, R189). A CS_N that is low at
the release makes the port wait for its rise. -/
def execPowerOnReset (csLow : Bool) (s : State) : Host.Outcome State Fault Refusal :=
  let fresh := { State.reset with pending := s.pending, freeCount := s.freeCount }
  .next (fresh.withTxn (if csLow then .waitRise else .none))

/-- RST_N_ASSERTED: while RST_N is low the port ignores SCK, CS_N and MOSI, MISO is high impedance and ATTN_N is high (R175):
`whileRunning`, `State.misoHighZ` and `State.attnHigh` read the level. -/
def execRstNAsserted (s : State) : Host.Outcome State Fault Refusal := .next (s.withRstN false)

/-- REQUEST_WRITE (R164, R165, R167, R168). -/
def execRequestWrite (fall : Bool) (bytes : List Byte) (rise : Bool) (s : State) : Host.Outcome State Fault Refusal :=
  whileRunning s (s.writeSegment fall bytes rise)

/-- REPLY_READ (R171, R172, R174). -/
def execReplyRead (fall : Bool) (count : Nat) (rise : Bool) (s : State) : Host.Outcome State Fault Refusal :=
  whileRunning s (s.readSegment fall count rise)

/-- PORT_STATUS (R173). -/
def execPortStatus (fall : Bool) (count : Nat) (rise : Bool) (s : State) : Host.Outcome State Fault Refusal :=
  whileRunning s (s.statusSegment fall count rise)

/-- COMMAND_BYTE_UNKNOWN (R164, R168). -/
def execCommandByteUnknown (cmd : Byte) (fall : Bool) (count : Nat) (rise : Bool) (s : State) :
    Host.Outcome State Fault Refusal :=
  whileRunning s (s.ignoredSegment cmd fall count rise)

end Sys2Proof.Machine
end

