-- ==== Sys2Proof/Machine/Engines.lean ====
section
/-! DEFINITION. The Sweep Engines' events: DISPATCH, PARTNER_CHECK, and the answers of the front end, CAL_RESULT and CAL_DECLINED
(4.4, 5.3 to 5.8). -/

namespace Sys2Proof.Machine

/-- DISPATCH: one consideration of dispatch (R76, R77, R78). -/
def execDispatch (s : State) : Host.Outcome State Fault Refusal := whileRunning s s.consider

/-- The partner check of a key on its link (R89, R120). -/
def State.converts (s : State) (key : Key) : Bool :=
  match (s.link key.link).partner with
  | some p => p.converts key.channel.val key.tone.val
  | none => false

/-- The partner check of a sweep (R89). -/
def State.checkPartner (s : State) (e : EngineId) (w : Sweep) : State :=
  if s.converts w.key then s.makeRequest e w else s.endFailed e w .invalid

/-- PARTNER_CHECK (R89): an engine whose check is still to be made makes it; where none is to be made, nothing happens. -/
def execPartnerCheck (e : EngineId) (s : State) : Host.Outcome State Fault Refusal :=
  whileRunning s
    (match s.sweep e with
    | some w => if w.mode = .measure ∧ w.awaited = none then s.checkPartner e w else s
    | none => s)

/-- An answer is accepted: nothing is awaited, the consecutive-timeout count becomes 0, the request's timer is cancelled (R92). -/
def State.acceptAnswer (s : State) (l : LinkId) (e : EngineId) (w : Sweep) : State :=
  (s.withLink l { s.link l with awaited := none, timeouts := 0 }).withSweep e
    (some { w with awaited := none, timer := .stopped })

/-- The sweep that awaits an answer: the link awaits the number, and so does the engine that sweeps on it (R92). -/
def State.awaiting (s : State) (l : LinkId) (sequence : Byte) : Option (EngineId × Sweep) :=
  if (s.link l).state = .up ∧ (s.link l).awaited = some sequence then
    match s.sweepingEngine l with
    | none => none
    | some e =>
      match s.sweep e with
      | none => none
      | some w => if w.awaited = some sequence then some (e, w) else none
  else none

/-- The result of a ZERO request (R93). -/
def State.zeroResult (s : State) (e : EngineId) (w : Sweep) (condition : Condition) (first second : Word) : State :=
  match condition with
  | .good => s.startRun e { w with zero := some (first.toInt, second.toInt) }
  | .saturated => s.endFailed e w .saturated
  | .invalid => s.endFailed e w .invalid

/-- A GOOD point (R94): appended, then the next point is requested, or the computation ends the sweep. -/
def State.goodPoint (s : State) (e : EngineId) (w : Sweep) (k : Nat) (p : Point) : State :=
  let w₁ := { w with points := w.points ++ [p] }
  if k + 1 < w.plan.pointCount then s.makeRequest e { w₁ with step := .point (k + 1), retries := 0 }
  else s.computeAndEnd e w₁

/-- A SATURATED point (R95): the run restarts at the next level, or the sweep fails at the last one. -/
def State.saturatedPoint (s : State) (e : EngineId) (w : Sweep) : State :=
  if w.restarts < Config.maxRestarts then
    s.startRun e { w with level := w.level + 1, restarts := w.restarts + 1, points := [] }
  else s.endFailed e w .saturated

/-- The result of a POINT request; a GOOD one with a phase above 4095 is taken as INVALID (R94-R96, log 14). -/
def State.pointResult (s : State) (e : EngineId) (w : Sweep) (k : Nat) (condition : Condition) (first second : Word) : State :=
  match condition with
  | .good =>
    if second.toNat < 4096 then s.goodPoint e w k { magnitude := first.toNat, phase := second.toNat }
    else s.endFailed e w .invalid
  | .saturated => s.saturatedPoint e w
  | .invalid => s.endFailed e w .invalid

/-- An accepted CAL_RESULT is decoded by the step the engine awaits (R93-R96, R202). -/
def State.actOnResult (s : State) (e : EngineId) (w : Sweep) (condition : Condition) (first second : Word) : State :=
  match w.step with
  | .zero => s.zeroResult e w condition first second
  | .point k => s.pointResult e w k condition first second

/-- A CAL_RESULT on a link (R92): accepted when its number is awaited, else discarded. -/
def State.calResult (s : State) (l : LinkId) (sequence condition : Byte) (first second : Word) : State :=
  match s.awaiting l sequence with
  | none => s
  | some (e, w) =>
    (s.acceptAnswer l e w).actOnResult e { w with awaited := none, timer := .stopped } (conditionOf condition) first second

/-- The engine's action on an accepted decline (R99). -/
def State.actOnDecline (s : State) (e : EngineId) (w : Sweep) : State :=
  if s.params.declineLimit ≤ w.declines then s.endFailed e w .declined
  else s.withSweep e (some { w with declines := w.declines + 1, mode := .wait, timer := .wait s.params.declineWaitMs })

/-- A CAL_DECLINED on a link (R92, R99). -/
def State.calDeclined (s : State) (l : LinkId) (sequence : Byte) : State :=
  match s.awaiting l sequence with
  | none => s
  | some (e, w) => (s.acceptAnswer l e w).actOnDecline e { w with awaited := none, timer := .stopped }

end Sys2Proof.Machine
end

