-- ==== Sys2Proof/Machine/Lookup.lean ====
section
/-! DEFINITION. The lookup service: the key checks, the alias table, automatic creation with eviction, and the answer (chapter 6). -/

namespace Sys2Proof.Machine

/-- The answer with no record: MISS or BAD_KEY (R119, R121, R122). -/
def noRecordAnswer (tag : Fin 4) (status : LookupStatus) (aliased : Bool) : Correction :=
  { tag := tag, status := status, aliased := aliased, created := false, generation := 0, values := none }

/-- The answer with the status of a record (R121, R122): values only in VALID, DUE and SUSPECT. -/
def recordAnswer (tag : Fin 4) (r : Record) (aliased created : Bool) : Correction :=
  { tag := tag
    status := r.state.lookupStatus
    aliased := aliased
    created := created
    generation := r.generation
    values := if r.state.serves then r.held.map Holding.values else none }

/-- Serve a record: its status is the answer and its last use is stamped (R130). -/
def State.serve (s : State) (tag : Fin 4) (slot : Nat) (r : Record) (aliased : Bool) : State × Correction :=
  (s.stamp slot, recordAnswer tag r aliased false)

/-! ## Automatic creation and eviction (R30-R32, R128, R129) -/

/-- Evict a record for a new key: its entry leaves the queue, its profile returns to the pool, its slot is freed, EVICTED is emitted
(R32). -/
def State.evict (s : State) (slot : Nat) (r : Record) (newKey : Key) : State :=
  ((s.withQueue (s.queue.remove slot)).removeRecord slot r).emit (.evicted r.key slot r.state newKey)

/-- The slot an auto-create takes: the lowest free one, or that of the evicted record; none without a candidate (R30). -/
def State.slotForAuto (s : State) (key : Key) : Option (Nat × State) :=
  match Table.lowestFree s.table with
  | some slot => some (slot, s)
  | none =>
    match Table.evictionCandidate s.table with
    | some (slot, r) => some (slot, s.evict slot r key)
    | none => none

/-- The auto-create claim and its answer (R128). -/
def State.autoCreate (s : State) (tag : Fin 4) (key : Key) : State × Correction :=
  match s.slotForAuto key with
  | some (slot, s₁) =>
    let r := newRecord key .auto false none s.params.baseInterval s.epochCount
    (s₁.createRecord slot r, recordAnswer tag r false true)
  | none => (s, noRecordAnswer tag .miss false)

/-- The lookup is answered for its own key (R127). -/
def State.answerOwn (s : State) (tag : Fin 4) (key : Key) : State × Correction :=
  match Table.findKey s.table key with
  | some (slot, r) => s.serve tag slot r false
  | none =>
    if namesWide s.params.autocreateMask key.link.val then s.autoCreate tag key
    else (s, noRecordAnswer tag .miss false)

/-! ## Aliases (R124-R126) -/

/-- An entry matches a key (R124). -/
def AliasEntry.matchesKey (a : AliasEntry) (key : Key) : Bool :=
  a.sourceLink == key.link && a.sourceChannel == key.channel && (a.tone == none || a.tone == some key.tone)

/-- The matching entry of the lowest index (R124). -/
def State.aliasFor (s : State) (key : Key) : Option AliasEntry :=
  s.aliases.toList.findSome? fun e =>
    match e with
    | some a => if a.matchesKey key then some a else none
    | none => none

/-- The target key: the entry's link and channel, the lookup's tone and gain step (R124). -/
def AliasEntry.target (a : AliasEntry) (key : Key) : Key := { key with link := a.targetLink, channel := a.targetChannel }

/-- A record that can be served with values (R126). -/
def servable (found : Option (Nat × Record)) : Option (Nat × Record) :=
  match found with
  | some (slot, r) => if r.state.serves then some (slot, r) else none
  | none => none

/-- The answer under a matching entry: ALWAYS (R125) or FALLBACK (R126). -/
def State.answerAliased (s : State) (tag : Fin 4) (key : Key) (a : AliasEntry) : State × Correction :=
  match a.mode with
  | .always =>
    match Table.findKey s.table (a.target key) with
    | some (slot, r) => s.serve tag slot r true
    | none => (s, noRecordAnswer tag .miss true)
  | .fallback =>
    match servable (Table.findKey s.table key) with
    | some (slot, r) => s.serve tag slot r false
    | none =>
      match servable (Table.findKey s.table (a.target key)) with
      | some (slot, r) => s.serve tag slot r true
      | none => s.answerOwn tag key

/-- The Lookup Unit's answer to a key in range (R120, R124). -/
def State.answerKey (s : State) (tag : Fin 4) (key : Key) : State × Correction :=
  if s.converts key then
    match s.aliasFor key with
    | some a => s.answerAliased tag key a
    | none => s.answerOwn tag key
  else (s, noRecordAnswer tag .badKey false)

/-- The Lookup Unit's answer to a LOOKUP (R119). -/
def State.answerLookup (s : State) (l : LinkId) (tag : Fin 4) (channel tone gain : Byte) : State × Correction :=
  match keyOf? l.val channel.toNat tone.toNat gain.toNat with
  | some key => s.answerKey tag key
  | none => (s, noRecordAnswer tag .badKey false)

/-- A LOOKUP handed over: its tag is outstanding, and the CORRECTION joins the link's outbound queue in the same claim (R118, R148). -/
def State.handOver (s : State) (l : LinkId) (tag : Fin 4) (channel tone gain : Byte) : State :=
  let s₁ := s.withLink l { s.link l with tags := (s.link l).tags ++ [tag] }
  let (s₂, c) := s₁.answerLookup l tag channel tone gain
  s₂.withLink l { s₂.link l with out := (s₂.link l).out ++ [{ body := .correction c, orphan := false }] }

/-- A LOOKUP on an UP link: the tag check of R148. -/
def State.lookup (s : State) (l : LinkId) (tag channel tone gain : Byte) : State :=
  match finOf? 4 tag.toNat with
  | none => s.protocolFault l
  | some t => if (s.link l).tags.contains t then s.protocolFault l else s.handOver l t channel tone gain

end Sys2Proof.Machine
end

