-- ==== Sys2Proof/Machine/LinkFrames.lean ====
section
/-! DEFINITION. The probe links: OUTBOUND_FRAME_SENT, FRAME_CHECK_FAILURE, INCOMPLETE_FRAME, HELLO_ACK, LOOKUP, CAL_RESULT,
CAL_DECLINED, DRIFT_ALERT, GOODBYE, UNKNOWN_FRAME_KIND (chapter 7). -/

namespace Sys2Proof.Machine

/-! ## Sending (R143) -/

/-- The effects of leaving that the present state still allows: a CORRECTION's tag is freed (R149), and the timer of the awaited
CAL_REQUEST starts (R91). -/
def State.sentEffects (s : State) (l : LinkId) (m : OutMsg) : State :=
  if m.orphan then s
  else
    match m.body with
    | .hello _ => s
    | .correction c => s.withLink l { s.link l with tags := (s.link l).tags.filter (· != c.tag) }
    | .calRequest r =>
      match s.awaiting l r.sequence with
      | some (e, w) => s.withSweep e (some { w with timer := .request s.params.calTimeoutMs })
      | none => s

/-- The head message leaves the outbound queue with its last character (R143). -/
def State.frameSent (s : State) (l : LinkId) : State :=
  match (s.link l).out with
  | [] => s
  | m :: rest => (s.withLink l { s.link l with out := rest, txLast := m.body.frame }).sentEffects l m

/-- OUTBOUND_FRAME_SENT (R143). -/
def execOutboundFrameSent (l : LinkId) (s : State) : Host.Outcome State Fault Refusal := whileRunning s (s.frameSent l)

/-! ## Frames that are not taken (R141) -/

/-- Set the characters of the frame in progress. -/
def State.withRx (s : State) (l : LinkId) (chars : List Byte) : State := s.withLink l { s.link l with rx := chars }

/-- FRAME_CHECK_FAILURE (R141): the frame in progress fails and is discarded without counting. A link that is OFF has no receiver
running. -/
def execFrameCheckFailure (l : LinkId) (chars : List Byte) (stopMissing : Bool) (s : State) : Host.Outcome State Fault Refusal :=
  whileRunning s
    (if (s.link l).state = .off then s else s.withRx l (afterFailure ((s.link l).rx ++ chars) stopMissing))

/-- INCOMPLETE_FRAME (R141): the frame in progress is discarded; hunting resumes with the next character. -/
def execIncompleteFrame (l : LinkId) (s : State) : Host.Outcome State Fault Refusal :=
  whileRunning s (if (s.link l).state = .off then s else s.withRx l [])

/-! ## Training (R145, R146) -/

/-- A HELLO_ACK body that R145 accepts. -/
def partnerOf? (body : List Byte) : Option Partner :=
  let p : Partner := { level := byteAt body 0, channels := byteAt body 1, toneMask := byteAt body 2 }
  if body.length = 3 ∧ p.level = Config.protocolLevel ∧ 1 ≤ p.channels.toNat ∧ p.channels.toNat ≤ 8
      ∧ p.toneMask ≠ 0x00#8 ∧ p.toneMask.toNat < 64 then some p
  else none

/-- A valid HELLO_ACK takes the link UP; a consideration of dispatch is due (R145, R78). -/
def State.train (s : State) (l : LinkId) (p : Partner) : State :=
  let s₁ := (s.withLink l { s.link l with partner := some p, faults := 0, timeouts := 0, hello := none }).removeOut l
    OutMsg.isHello
  (((s₁.withLink l { s₁.link l with state := .up }).emit (.linkState l .up .trained p.level p.channels p.toneMask 0 0)).withConsider
    true).nextDraw

/-- A refused HELLO_ACK is reported once in a DOWN period, with the first three bytes of its body as the fields it gave (R146, log 13);
a field that a shorter body does not give is sent as 00h (the opening of chapter 10). The item becomes yes whether or not NOTICE_MASK
lets the notice out: R146 and R139 leave that open, and it is the model's choice (log 21). -/
def State.refusePartner (s : State) (l : LinkId) (body : List Byte) : State :=
  if (s.link l).refusalReported then s
  else
    (s.withLink l { s.link l with refusalReported := true }).emit
      (.linkState l .down .badPartner (byteAt body 0) (byteAt body 1) (byteAt body 2) 0 0)

/-- A HELLO_ACK by the link's state (R142, R145, R146, R151). -/
def State.helloAck (s : State) (l : LinkId) (body : List Byte) : State :=
  match (s.link l).state with
  | .off => s
  | .up => s.protocolFault l
  | .down =>
    match partnerOf? body with
    | some p => s.train l p
    | none => s.refusePartner l body

/-! ## Drift alerts (R154) -/

/-- The records a DRIFT_ALERT marks. -/
def drifts (l : LinkId) (channels tones : Byte) (r : Record) : Bool :=
  r.key.link == l && names channels r.key.channel.val && names tones r.key.tone.val && r.policy == .auto && r.state.serves

/-- The marking pass of a DRIFT_ALERT. -/
def State.driftAlert (s : State) (l : LinkId) (channels tones : Byte) : State :=
  (s.markPass State.markAlert (Table.slotsWhere s.table (drifts l channels tones))).1

/-! ## Frames that passed their check (R142) -/

/-- A front-end frame of its required length on an UP link; any other kind or length is a protocol fault (R142). -/
def State.takeUp (s : State) (l : LinkId) (kind : Byte) (body : List Byte) : State :=
  if kind = frameLookup ∧ body.length = 4 then
    s.lookup l (byteAt body 0) (byteAt body 1) (byteAt body 2) (byteAt body 3)
  else if kind = frameCalResult ∧ body.length = 6 then
    s.calResult l (byteAt body 0) (byteAt body 1) (BitVec.ofNat 16 (wordAt body 2)) (BitVec.ofNat 16 (wordAt body 4))
  else if kind = frameCalDeclined ∧ body.length = 1 then s.calDeclined l (byteAt body 0)
  else if kind = frameDriftAlert ∧ body.length = 2 then s.driftAlert l (byteAt body 0) (byteAt body 1)
  else if kind = frameGoodbye ∧ body.length = 0 then s.leaveUp l .partner
  else s.protocolFault l

/-- A frame that passed its check, by the link's state (R142). -/
def State.takeFrame (s : State) (l : LinkId) (kind : Byte) (body : List Byte) : State :=
  match (s.link l).state with
  | .off => s
  | .down => if kind = frameHelloAck then s.helloAck l body else s
  | .up => s.takeUp l kind body

/-- A taken frame leaves the receiver hunting after its check byte (R141), and is acted on; a link that is OFF receives nothing. -/
def State.arrive (s : State) (l : LinkId) (kind : Byte) (body : List Byte) (act : State → State) : State :=
  if (s.link l).state = .off then s else act (s.withRx l (afterTaken (s.link l).rx (linkFrame kind body)))

/-- An effect that a frame has on an UP link only; on a DOWN link it is discarded without counting (R142). -/
def State.whenUp (s : State) (l : LinkId) (s' : State) : State := if (s.link l).state = .up then s' else s

/-! ## The commands -/

/-- HELLO_ACK (R145, R146, R151). -/
def execHelloAck (l : LinkId) (body : List Byte) (s : State) : Host.Outcome State Fault Refusal :=
  whileRunning s (s.arrive l frameHelloAck body fun s => s.helloAck l body)

/-- LOOKUP (R118, R148). -/
def execLookup (l : LinkId) (tag channel tone gain : Byte) (s : State) : Host.Outcome State Fault Refusal :=
  whileRunning s
    (s.arrive l frameLookup [tag, channel, tone, gain] fun s => s.whenUp l (s.lookup l tag channel tone gain))

/-- The two bytes of a word, most significant first. -/
def wordBytes (w : Word) : List Byte := bytes2 w.toNat

/-- CAL_RESULT (R92-R96, R102-R105, R202). -/
def execCalResult (l : LinkId) (sequence condition : Byte) (first second : Word) (s : State) :
    Host.Outcome State Fault Refusal :=
  whileRunning s
    (s.arrive l frameCalResult (sequence :: condition :: (wordBytes first ++ wordBytes second)) fun s =>
      s.whenUp l (s.calResult l sequence condition first second))

/-- CAL_DECLINED (R92, R99). -/
def execCalDeclined (l : LinkId) (sequence : Byte) (s : State) : Host.Outcome State Fault Refusal :=
  whileRunning s (s.arrive l frameCalDeclined [sequence] fun s => s.whenUp l (s.calDeclined l sequence))

/-- DRIFT_ALERT (R154). -/
def execDriftAlert (l : LinkId) (channelMask toneMask : Byte) (s : State) : Host.Outcome State Fault Refusal :=
  whileRunning s
    (s.arrive l frameDriftAlert [channelMask, toneMask] fun s => s.whenUp l (s.driftAlert l channelMask toneMask))

/-- GOODBYE (R153). -/
def execGoodbye (l : LinkId) (s : State) : Host.Outcome State Fault Refusal :=
  whileRunning s (s.arrive l frameGoodbye [] fun s => s.whenUp l (s.leaveUp l .partner))

/-- UNKNOWN_FRAME_KIND (R142, R151). -/
def execUnknownFrameKind (l : LinkId) (kind : Byte) (body : List Byte) (s : State) : Host.Outcome State Fault Refusal :=
  whileRunning s (s.arrive l kind body fun s => s.takeFrame l kind body)

end Sys2Proof.Machine
end

