-- ==== Sys2Proof/Machine/Timers.lean ====
section
/-! DEFINITION. Time: EPOCH_EXPIRY, RETRY_COUNTDOWN_EXPIRY, REQUEST_TIMER_EXPIRY, WAIT_TIMER_EXPIRY, HELLO_TIMER_EXPIRY (chapter 3,
5.6, 5.7, 7.4). -/

namespace Sys2Proof.Machine

/-! ## The epoch expiry (R50) -/

/-- The epoch counter after an expiry: saturating (R37). -/
def nextEpochCount (n : Nat) : Nat := if n < Config.maxEpochCount then n + 1 else n

/-- A record ages by 1, saturating (R51). -/
def Record.aged (r : Record) : Record := { r with age := if r.age < Config.maxAge then r.age + 1 else r.age }

/-- The age-driven state of an AUTO record (R52, R53). -/
def Record.agedState (r : Record) (staleLimit : Nat) : RecState :=
  match r.state with
  | .valid => if staleLimit ≤ r.age then .stale else if r.interval ≤ r.age then .due else .valid
  | .due => if staleLimit ≤ r.age then .stale else .due
  | .suspect => if staleLimit ≤ r.age then .stale else .suspect
  | .stale =>
    if staleLimit ≤ r.age then .stale
    else if 0 < r.failCount then .suspect
    else if r.interval ≤ r.age then .due
    else .valid
  | st => st

/-- The age-driven change of a record: an AUTO record takes its new state, and one that leaves VALID with standing IDLE takes
WAITING(SCHEDULED) (R52, R53). FIXED records do not move with age. -/
def Record.ageDriven (r : Record) (staleLimit : Nat) : Record :=
  match r.policy with
  | .fixed => r
  | .auto =>
    let st := r.agedState staleLimit
    { r with
      state := st
      standing := if r.state = .valid ∧ st ≠ .valid ∧ r.standing = .idle then .waiting .scheduled else r.standing }

/-- A RETRY countdown lowered by 1; one that reaches 0 becomes WAITING(RETRY) (R55). -/
def Standing.countedDown : Standing → Standing
  | .retry n => if n ≤ 1 then .waiting .retry else .retry (n - 1)
  | st => st

/-- Steps 2 to 4 of an expiry at one record (R50). -/
def Record.expired (r : Record) (staleLimit : Nat) : Record :=
  let r₁ := r.aged.ageDriven staleLimit
  { r₁ with standing := r₁.standing.countedDown }

/-- The STALE_ENTERED notice of a record that becomes STALE at the expiry (R54). -/
def staleNotice (staleLimit : Nat) (e : Nat × Record) : Option Notice :=
  let r₁ := e.2.aged.ageDriven staleLimit
  if e.2.state ≠ .stale ∧ r₁.state = .stale then some (.staleEntered e.2.key e.1 e.2.state r₁.age) else none

/-- Emit notices in the order given. -/
def State.emitAll (s : State) : List Notice → State
  | [] => s
  | n :: rest => State.emitAll (s.emit n) rest

/-- The records waiting with a cause of one class, in ascending slot order (R56). -/
def waitingSlots (t : Table) (priority : Bool) : List Nat :=
  Table.slotsWhere t fun r =>
    match r.standing with
    | .waiting c => c.isPriority == priority
    | _ => false

/-- Steps 1 to 4 of an epoch expiry: the counter, ageing, the age-driven changes with their notices, the countdowns (R50). -/
def State.ageAll (s : State) : State :=
  ((s.withEpochCount (nextEpochCount s.epochCount)).emitAll (s.table.filterMap (staleNotice s.params.staleLimit))).withTable
    (s.table.map fun e => (e.1, e.2.expired s.params.staleLimit))

/-- Step 5: the priority pass, then the back pass. The back pass is over the records that waited before the priority pass, so a
record displaced in this expiry is not offered a place in it (R56). -/
def State.offerWaiting (s : State) : State :=
  (s.offerPass (waitingSlots s.table true)).offerPass (waitingSlots s.table false)

/-- The next epoch starts with the EPOCH_MS in force (R47). -/
def State.startEpoch (s : State) : State := s.withEpoch { length := s.params.epochMs, left := s.params.epochMs }

/-- EPOCH_EXPIRY (R47, R50). -/
def execEpochExpiry (s : State) : Host.Outcome State Fault Refusal :=
  whileRunning s s.startEpoch.ageAll.offerWaiting

/-- The end of a countdown at one record, apart from the rest of its expiry (R55, log 10). -/
def Standing.countdownEnded : Standing → Standing
  | .retry n => if n ≤ 1 then .waiting .retry else .retry n
  | st => st

/-- RETRY_COUNTDOWN_EXPIRY (R55): a record in its last epoch of RETRY takes WAITING(RETRY); the offer of a place is the
expiry's. -/
def execRetryCountdownExpiry (slot : Nat) (s : State) : Host.Outcome State Fault Refusal :=
  whileRunning s (s.modRecord slot fun r => { r with standing := r.standing.countdownEnded })

/-! ## Engine timers -/

/-- A request timer that expired: the link's count rises and nothing is awaited; then the link goes DOWN, the request is sent
again, or the sweep fails TIMEOUT (R97). -/
def State.requestTimeout (s : State) (e : EngineId) (w : Sweep) : State :=
  let l := w.key.link
  let w₁ := { w with awaited := none, timer := .stopped }
  let s₁ := (s.withLink l { s.link l with timeouts := (s.link l).timeouts + 1, awaited := none }).withSweep e (some w₁)
  if Config.maxTimeouts ≤ (s₁.link l).timeouts then s₁.leaveUp l .silent
  else if w.retries = 0 then s₁.makeRequest e { w₁ with retries := 1 }
  else s₁.endFailed e w₁ .timeout

/-- REQUEST_TIMER_EXPIRY (R97, R98). Where no request timer runs, nothing expires. -/
def execRequestTimerExpiry (e : EngineId) (s : State) : Host.Outcome State Fault Refusal :=
  whileRunning s
    (match s.sweep e with
    | some w =>
      match w.timer with
      | .request _ => s.requestTimeout e w
      | _ => s
    | none => s)

/-- WAIT_TIMER_EXPIRY (R100): the declined request is sent again with retry count 0. Where no wait timer runs, nothing expires. -/
def execWaitTimerExpiry (e : EngineId) (s : State) : Host.Outcome State Fault Refusal :=
  whileRunning s
    (match s.sweep e with
    | some w =>
      match w.timer with
      | .wait _ => s.makeRequest e { w with retries := 0 }
      | _ => s
    | none => s)

/-! ## The HELLO timer -/

/-- A HELLO of the link is in the outbound queue. -/
def Link.helloQueued (lk : Link) : Bool := lk.out.any fun m => match m.body with | .hello _ => true | _ => false

/-- HELLO_TIMER_EXPIRY (R144): a HELLO joins when none is in the queue, and the timer starts again. A link that is not DOWN runs no
HELLO timer. -/
def execHelloTimerExpiry (l : LinkId) (s : State) : Host.Outcome State Fault Refusal :=
  whileRunning s
    (match (s.link l).state, (s.link l).hello with
    | .down, some _ =>
      s.withLink l
        { s.link l with
          hello := some Config.helloPeriod
          out := if (s.link l).helloQueued then (s.link l).out
            else (s.link l).out ++ [{ body := .hello l, orphan := false }] }
    | _, _ => s)

end Sys2Proof.Machine
end

