-- ==== Sys2Proof/Machine/Dispatch.lean ====
section
/-! DEFINITION. One arm for each command: a direct call of its meaning. -/

namespace Sys2Proof.Machine

def exec (i : Instr) (s : State) : Host.Outcome State Fault Refusal :=
  match i with
  | .powerOnReset csLow => Sys2Proof.Machine.execPowerOnReset csLow s
  | .rstNAsserted => Sys2Proof.Machine.execRstNAsserted s
  | .requestWrite fall bytes rise => Sys2Proof.Machine.execRequestWrite fall bytes rise s
  | .replyRead fall count rise => Sys2Proof.Machine.execReplyRead fall count rise s
  | .portStatus fall count rise => Sys2Proof.Machine.execPortStatus fall count rise s
  | .commandByteUnknown cmd fall count rise => Sys2Proof.Machine.execCommandByteUnknown cmd fall count rise s
  | .unknownKind kind body => Sys2Proof.Machine.execUnknownKind kind body s
  | .create body => Sys2Proof.Machine.execCreate body s
  | .load body => Sys2Proof.Machine.execLoad body s
  | .read body => Sys2Proof.Machine.execRead body s
  | .retire body => Sys2Proof.Machine.execRetire body s
  | .setPolicyFixed id key pin => Sys2Proof.Machine.execSetPolicyFixed id key pin s
  | .setPolicyAuto id key pin => Sys2Proof.Machine.execSetPolicyAuto id key pin s
  | .refresh body => Sys2Proof.Machine.execRefresh body s
  | .refreshScope body => Sys2Proof.Machine.execRefreshScope body s
  | .scan body => Sys2Proof.Machine.execScan body s
  | .aliasSet body => Sys2Proof.Machine.execAliasSet body s
  | .aliasClear body => Sys2Proof.Machine.execAliasClear body s
  | .aliasRead body => Sys2Proof.Machine.execAliasRead body s
  | .tonePlanSet body => Sys2Proof.Machine.execTonePlanSet body s
  | .tonePlanRead body => Sys2Proof.Machine.execTonePlanRead body s
  | .levelSet body => Sys2Proof.Machine.execLevelSet body s
  | .levelRead body => Sys2Proof.Machine.execLevelRead body s
  | .configSet body => Sys2Proof.Machine.execConfigSet body s
  | .configGet body => Sys2Proof.Machine.execConfigGet body s
  | .linkControlDisable id link => Sys2Proof.Machine.execLinkControlDisable id link s
  | .linkControlEnable id link => Sys2Proof.Machine.execLinkControlEnable id link s
  | .status body => Sys2Proof.Machine.execStatus body s
  | .softResetTable id => Sys2Proof.Machine.execSoftResetTable id s
  | .softResetFull id => Sys2Proof.Machine.execSoftResetFull id s
  | .epochExpiry => Sys2Proof.Machine.execEpochExpiry s
  | .retryCountdownExpiry slot => Sys2Proof.Machine.execRetryCountdownExpiry slot s
  | .dispatch => Sys2Proof.Machine.execDispatch s
  | .partnerCheck engine => Sys2Proof.Machine.execPartnerCheck engine s
  | .requestTimerExpiry engine => Sys2Proof.Machine.execRequestTimerExpiry engine s
  | .waitTimerExpiry engine => Sys2Proof.Machine.execWaitTimerExpiry engine s
  | .helloTimerExpiry link => Sys2Proof.Machine.execHelloTimerExpiry link s
  | .outboundFrameSent link => Sys2Proof.Machine.execOutboundFrameSent link s
  | .frameCheckFailure link chars stopMissing => Sys2Proof.Machine.execFrameCheckFailure link chars stopMissing s
  | .incompleteFrame link => Sys2Proof.Machine.execIncompleteFrame link s
  | .helloAck link body => Sys2Proof.Machine.execHelloAck link body s
  | .lookup link tag channel tone gain => Sys2Proof.Machine.execLookup link tag channel tone gain s
  | .calResult link sequence condition first second => Sys2Proof.Machine.execCalResult link sequence condition first second s
  | .calDeclined link sequence => Sys2Proof.Machine.execCalDeclined link sequence s
  | .driftAlert link channelMask toneMask => Sys2Proof.Machine.execDriftAlert link channelMask toneMask s
  | .goodbye link => Sys2Proof.Machine.execGoodbye link s
  | .unknownFrameKind link kind body => Sys2Proof.Machine.execUnknownFrameKind link kind body s
  | .setPolicyRefused body => Sys2Proof.Machine.execSetPolicyRefused body s
  | .linkControlRefused body => Sys2Proof.Machine.execLinkControlRefused body s
  | .softResetRefused body => Sys2Proof.Machine.execSoftResetRefused body s

end Sys2Proof.Machine
end

