-- ==== Sys2Proof/Safety.lean ====
section
/-! DEFINITION. The words of the statements: the safe states of each block, when a request can be taken, what the Host Port holds
after it, and the messages of chapter 10 written out from their fields. -/

namespace Sys2Proof.Machine

/-! ## Safe states -/

/-- The table lists occupied slots once, in ascending order, none above 511; no two records hold one key (R26, R27). -/
abbrev State.TableOk (s : State) : Prop :=
  s.table.Pairwise (fun a b => a.1 < b.1) ∧ (∀ e ∈ s.table, e.1 < 512) ∧ s.table.Pairwise (fun a b => a.2.key ≠ b.2.key)

/-- The points that the records' profiles take. -/
def Table.points (t : Table) : Nat := (t.map fun e => e.2.profilePoints).sum

/-- Each point of the pool is free or belongs to one profile (R38). -/
abbrev State.PoolOk (s : State) : Prop := s.TableOk ∧ s.poolFree + s.table.points = 2048

/-- What a record's optional parts and fail count owe its state: values are absent in PENDING and present in VALID, DUE, SUSPECT and
STALE (R12); a profile needs values of origin SWEEP (R2); VALID and DUE go with a fail count of 0 (R7). -/
abbrev Record.Sound (r : Record) : Prop :=
  (r.state = .pending → r.held = none)
    ∧ (r.state = .valid ∨ r.state = .due ∨ r.state = .suspect ∨ r.state = .stale → r.held ≠ none)
    ∧ (r.profile ≠ none → r.held.map Holding.origin = some .sweep)
    ∧ (r.state = .valid ∨ r.state = .due → r.failCount = 0)

/-- Every record is sound. -/
abbrev State.RecordsOk (s : State) : Prop := s.TableOk ∧ ∀ e ∈ s.table, e.2.Sound

/-- The cadence parameters keep their relation and every interval lies within them (R59). -/
abbrev State.IntervalsOk (s : State) : Prop :=
  1 ≤ s.params.baseInterval ∧ s.params.baseInterval ≤ s.params.intervalCap ∧ s.params.intervalCap < s.params.staleLimit
    ∧ s.params.staleLimit ≤ 65535 ∧ 1 ≤ s.params.growth
    ∧ ∀ e ∈ s.table, s.params.baseInterval ≤ e.2.interval ∧ e.2.interval ≤ s.params.intervalCap

/-- The outbound queue of the Host Port between two claims: at most 48 messages, 32 of them notices, and an overflow state that
tells what the queue holds (R169, R170). -/
abbrev HostPort.OutboundOk (h : HostPort) : Prop :=
  h.heldPlace = false ∧ h.out.length ≤ 48 ∧ h.notices ≤ 32
    ∧ (h.overflow = .clear → h.notices ≤ 31 ∧ HostMsg.overflow ∉ h.out ∧ h.overflowCount = 0)
    ∧ (h.overflow = .held → h.out.length = 48 ∧ h.notices ≤ 31 ∧ HostMsg.overflow ∉ h.out ∧ 1 ≤ h.overflowCount)
    ∧ (h.overflow = .queued → h.out.count HostMsg.overflow = 1 ∧ 1 ≤ h.overflowCount)
    ∧ h.overflowCount ≤ 65535 ∧ h.overflowSince ≤ 65535

/-- Bytes of the inbound buffer that whole requests and a message in reception hold (R165). -/
def HostPort.inboundUsed (h : HostPort) : Nat :=
  (h.requests.map fun r => 3 + r.body.length).sum
    + (match h.txn with
      | .requestWrite (.body _ length _) => 3 + length
      | _ => 0)

/-- Every byte of the inbound buffer is free, or held by a whole request or by the message in reception (R165), and a message in
reception is not yet whole. -/
abbrev HostPort.InboundOk (h : HostPort) : Prop :=
  h.inboundFree + h.inboundUsed = 1024
    ∧ (match h.txn with
      | .requestWrite (.body _ length written) => written.length < length ∧ length ≤ 260
      | _ => True)

/-- The Refresh Queue, the engines and the standings tell one story: at most 64 entries, each in its cause's section; an entry
exactly for each QUEUED record and a sweep exactly for each SWEEPING one (R65); whoever seeks, waits for or has a sweep is AUTO and
not FAULTED (R66); a RETRY countdown has not run out (R13). -/
abbrev State.RefreshOk (s : State) : Prop :=
  s.TableOk
    ∧ s.queue.length ≤ 64
    ∧ (∀ q ∈ s.queue.prio, q.cause.isPriority = true) ∧ (∀ q ∈ s.queue.back, q.cause.isPriority = false)
    ∧ s.queue.entries.Pairwise (fun a b => a.slot ≠ b.slot)
    ∧ (∀ q ∈ s.queue.entries, ∃ e ∈ s.table, e.1 = q.slot ∧ e.2.key = q.key ∧ e.2.standing = .queued q.cause)
    ∧ (∀ e ∈ s.table, ∀ c ∈ [Cause.first, .requested, .scheduled, .retry], e.2.standing = .queued c →
        ∃ q ∈ s.queue.entries, q.slot = e.1)
    ∧ (∀ i ∈ [EngineId.se0, .se1], ∀ w ∈ s.sweep i, ∃ e ∈ s.table, e.1 = w.slot ∧ e.2.key = w.key ∧ e.2.standing = .sweeping i)
    ∧ (∀ e ∈ s.table, ∀ i ∈ [EngineId.se0, .se1], e.2.standing = .sweeping i → ∃ w ∈ s.sweep i, w.slot = e.1)
    ∧ (∀ e ∈ s.table, e.2.standing ≠ .idle → e.2.policy = .auto ∧ e.2.state ≠ .faulted)
    ∧ (∀ e ∈ s.table, e.2.standing ≠ .retry 0)

/-- The engines and their links agree: a sweep runs on an UP link that no other engine sweeps on, both await one number, a link
without a sweep awaits none (R87, R150), and the restart count is the level (R86). -/
abbrev State.SweepsOk (s : State) : Prop :=
  (∀ i ∈ [EngineId.se0, .se1], ∀ w ∈ s.sweep i,
      (s.link w.key.link).state = .up ∧ (s.link w.key.link).awaited = w.awaited ∧ w.restarts = w.level.val
        ∧ (w.mode = .wait → w.awaited = none))
    ∧ (∀ w ∈ s.se0, ∀ v ∈ s.se1, w.key.link ≠ v.key.link)
    ∧ (∀ l : LinkId, s.sweepsOn .se0 l = false → s.sweepsOn .se1 l = false → (s.link l).awaited = none)

/-- The tags of the CORRECTIONs that still answer a lookup, in join order. -/
def Link.openTags (lk : Link) : List (Fin 4) :=
  lk.out.filterMap fun m =>
    match m.orphan, m.body with
    | false, .correction c => some c.tag
    | _, _ => none

/-- A tag is outstanding exactly while the CORRECTION that answers it waits or is being sent, each once, and only while the link is
UP (R149). -/
abbrev State.TagsOk (s : State) : Prop :=
  ∀ l : LinkId, (s.link l).tags = (s.link l).openTags ∧ (s.link l).tags.Nodup ∧ ((s.link l).state ≠ .up → (s.link l).tags = [])

/-- A command that follows the prompts of R78: while a consideration of dispatch is due, only DISPATCH is taken (log 3). -/
abbrev State.Orderly (s : State) (c : Instr) : Prop := s.considerDue = true → c = .dispatch

/-! ## Requests -/

/-- The request kind and body that a request row carries (10.2). -/
def requestOf : Instr → Option (Byte × List Byte)
  | .unknownKind kind body => some (kind, body)
  | .create body => some (0x01#8, body)
  | .load body => some (0x02#8, body)
  | .read body => some (0x03#8, body)
  | .retire body => some (0x04#8, body)
  | .setPolicyFixed id key pin => some (0x05#8, [id, key.link, key.channel, key.tone, key.gain, 0x01#8, pin])
  | .setPolicyAuto id key pin => some (0x05#8, [id, key.link, key.channel, key.tone, key.gain, 0x00#8, pin])
  | .setPolicyRefused body => some (0x05#8, body)
  | .refresh body => some (0x06#8, body)
  | .refreshScope body => some (0x07#8, body)
  | .scan body => some (0x08#8, body)
  | .aliasSet body => some (0x09#8, body)
  | .aliasClear body => some (0x0A#8, body)
  | .aliasRead body => some (0x0B#8, body)
  | .tonePlanSet body => some (0x0C#8, body)
  | .tonePlanRead body => some (0x0D#8, body)
  | .levelSet body => some (0x0E#8, body)
  | .levelRead body => some (0x0F#8, body)
  | .configSet body => some (0x10#8, body)
  | .configGet body => some (0x11#8, body)
  | .linkControlDisable id link => some (0x12#8, [id, link, 0x00#8])
  | .linkControlEnable id link => some (0x12#8, [id, link, 0x01#8])
  | .linkControlRefused body => some (0x12#8, body)
  | .status body => some (0x13#8, body)
  | .softResetTable id => some (0x14#8, [id, 0x00#8])
  | .softResetFull id => some (0x14#8, [id, 0x01#8])
  | .softResetRefused body => some (0x14#8, body)
  | _ => none

/-- The part runs, the outbound queue has room (R166), and this request is the oldest whole one, or comes with its own request
write (log 4). -/
abbrev State.Takes (s : State) (kind : Byte) (body : List Byte) : Prop :=
  s.rstN = true ∧ s.host.out.length < 48
    ∧ (s.host.requests.head? = some { kind := kind, body := body }
      ∨ (s.host.requests = [] ∧ s.host.txn = .none ∧ body.length ≤ 260))

/-- The Host Port after these notices were emitted in order under this NOTICE_MASK (R169, R170). -/
def HostPort.emitted (h : HostPort) (mask : Nat) (notices : List Notice) : HostPort :=
  notices.foldl (fun h n => if namesWide mask n.maskBit then h.claim n else h) h

/-- The Host Port after one request has been taken, has emitted these notices under this NOTICE_MASK, and has been answered (R166,
R169, R177). -/
def State.answered (s : State) (mask : Nat) (notices : List Notice) (r : Reply) : HostPort :=
  let taken : HostPort :=
    { s.host with
      requests := s.host.requests.tail
      inboundFree := s.host.inboundFree + ((s.host.requests.take 1).map fun q => 3 + q.body.length).sum
      heldPlace := true }
  let emitted := taken.emitted mask notices
  { emitted with heldPlace := false, out := emitted.out ++ [.reply r] }

/-- The Host Port after one request that emits no notice. -/
def State.replied (s : State) (r : Reply) : HostPort := s.answered 0 [] r

/-- One record holds the key, in this slot. -/
abbrev State.Holds (s : State) (key : Key) (slot : Nat) (r : Record) : Prop := s.TableOk ∧ (slot, r) ∈ s.table ∧ r.key = key

/-- No record holds the key. -/
abbrev State.Lacks (s : State) (key : Key) : Prop := ∀ e ∈ s.table, e.2.key ≠ key

/-- The lowest-numbered free slot (R28). -/
abbrev State.LowestFree (s : State) (slot : Nat) : Prop :=
  slot < 512 ∧ Table.get s.table slot = none ∧ ∀ m < slot, Table.get s.table m ≠ none

/-- Two tables read alike but for one slot. -/
def Table.DiffersAt (t u : Table) (slot : Nat) (r : Option Record) : Prop :=
  ∀ m, Table.get u m = if m = slot then r else Table.get t m

/-- The queue without the entry of a record that was QUEUED (R73). -/
def State.queueWithout (s : State) (slot : Nat) (r : Record) : RefreshQueue :=
  match r.standing with
  | .queued _ => { prio := s.queue.prio.filter fun q => q.slot != slot, back := s.queue.back.filter fun q => q.slot != slot }
  | _ => s.queue

/-- Values in their ranges (R3). -/
abbrev Values.InRange (v : Values) : Prop :=
  -32768 ≤ v.offsetI ∧ v.offsetI ≤ 32767 ∧ -32768 ≤ v.offsetQ ∧ v.offsetQ ≤ 32767 ∧ 1 ≤ v.scale ∧ v.scale ≤ 65535
    ∧ -2048 ≤ v.trim ∧ v.trim ≤ 2047

/-- A waiting message, not one that only finishes on the wire (R143), is a CAL_REQUEST. -/
def OutMsg.waitingCal (m : OutMsg) : Bool := !m.orphan && (match m.body with | .calRequest _ => true | _ => false)

/-- A waiting message is a CORRECTION. -/
def OutMsg.waitingCorrection (m : OutMsg) : Bool := !m.orphan && (match m.body with | .correction _ => true | _ => false)

/-- A message is a HELLO, waiting or in transmission. -/
def OutMsg.helloOf (m : OutMsg) : Bool := match m.body with | .hello _ => true | _ => false

/-- A message is a HELLO that waits. -/
def OutMsg.waitingHello (m : OutMsg) : Bool := !m.orphan && m.helloOf

/-- Of the messages that removals have reached, only the one that stood at the head before can be finishing on the wire (R143). -/
def OnlyHeadFinishes (before after : List OutMsg) : Prop :=
  ∀ m ∈ after, m.orphan = true → m ∈ before ∨ before.head? = some { m with orphan := false }

/-- The receiver of a link has taken this frame; nothing else has changed (R141). -/
def State.receivedOn (s : State) (l : LinkId) (kind : Byte) (body : List Byte) : State :=
  s.withLink l { s.link l with rx := afterTaken (s.link l).rx (linkFrame kind body) }

/-- An engine's sweep whose answer under this number the link takes (R92). -/
abbrev State.Awaits (s : State) (l : LinkId) (number : Byte) (e : EngineId) (w : Sweep) : Prop :=
  s.rstN = true ∧ s.SweepsOk ∧ s.sweep e = some w ∧ w.key.link = l ∧ w.awaited = some number

/-- The state of an AUTO record after an epoch expiry that brings it to this age (the tables of R52 and R53). -/
def Record.expiryState (r : Record) (staleLimit age : Nat) : RecState :=
  if r.policy = .fixed ∨ r.state = .pending ∨ r.state = .faulted then r.state
  else if staleLimit ≤ age then .stale
  else if r.state = .valid then if r.interval ≤ age then .due else .valid
  else if r.state = .stale then
    if 0 < r.failCount then .suspect else if r.interval ≤ age then .due else .valid
  else r.state

/-- A record after steps 1 to 4 of an epoch expiry (R50). -/
def Record.afterExpiry (r : Record) (staleLimit : Nat) : Record :=
  let age := if r.age < 65535 then r.age + 1 else r.age
  let state := r.expiryState staleLimit age
  { r with
    age := age
    state := state
    standing :=
      match r.standing with
      | .idle => if r.state = .valid ∧ state ≠ .valid then .waiting .scheduled else .idle
      | .retry n => if n ≤ 1 then .waiting .retry else .retry (n - 1)
      | st => st }

/-- The lowest and the highest value of a parameter, by its id 1 to 17, against the other parameters in force (10.6, R60). -/
def Params.range (p : Params) : Nat → Nat × Nat
  | 1 => (10, 60000)
  | 2 => (1, min 65533 p.intervalCap)
  | 3 => (p.baseInterval, p.staleLimit - 1)
  | 4 => (1, 4)
  | 5 => (0, 15)
  | 6 => (p.intervalCap + 1, 65535)
  | 7 => (0, 255)
  | 8 => (1, 7)
  | 9 => (0, 32767)
  | 10 => (0, 65535)
  | 11 => (0, 2047)
  | 12 => (0, 4095)
  | 13 => (1, 255)
  | 14 => (1, 255)
  | 15 => (0, 255)
  | 16 => (0, 15)
  | _ => (0, 127)

/-- The seventeen parameters in the order of their ids 1 to 17 (10.6). -/
def Params.list (p : Params) : List Nat :=
  [p.epochMs, p.baseInterval, p.intervalCap, p.growth, p.streakMin, p.staleLimit, p.retryDelay, p.failLimit, p.tolOffset,
    p.tolScale, p.tolPhase, p.spreadLimit, p.calTimeoutMs, p.declineWaitMs, p.declineLimit, p.autocreateMask, p.noticeMask]

/-! ## The checks of a request (R178, 10.2) -/

/-- The body lengths that a request of this kind may have (10.2). -/
def bodyLengths (kind : Byte) : List Nat :=
  match kind.toNat with
  | 1 => [7, 15]
  | 2 => [13]
  | 3 | 4 | 6 | 8 => [5]
  | 5 => [7]
  | 7 => [6]
  | 9 => [8]
  | 10 | 11 | 13 | 15 | 17 | 20 => [2]
  | 12 => [9]
  | 14 | 16 => [4]
  | 18 => [3]
  | 19 => [1]
  | _ => []

/-- The body positions of the fields that check 3 judges, each with the number of its values: 4 links, 8 channels, 6 tones, 12 gain
steps (R178). -/
def keyFields (kind : Byte) : List (Nat × Nat) :=
  match kind.toNat with
  | 1 | 2 | 3 | 4 | 5 | 6 => [(1, 4), (2, 8), (3, 6), (4, 12)]
  | 7 | 18 => [(1, 4)]
  | 9 => [(2, 4), (3, 8), (5, 4), (6, 8)]
  | 12 | 13 => [(1, 6)]
  | _ => []

/-- Check 4: every other field lies in its range, and the fields agree with one another and with the parameter store (R178, and the
rule of each request in chapters 6 and 9). -/
def otherFieldsFit (p : Params) (kind : Byte) (body : List Byte) : Bool :=
  let b (i : Nat) : Nat := (body.getD i 0).toNat
  let w (i : Nat) : Nat := b i * 256 + b (i + 1)
  let values (i : Nat) : Prop := 1 ≤ w (i + 4) ∧ (w (i + 6) < 2048 ∨ 65536 - 2048 ≤ w (i + 6))
  match kind.toNat with
  | 1 => decide (b 5 ≤ 1 ∧ b 6 ≤ 1 ∧ (body.length = 15 → values 7))
  | 2 => decide (values 5)
  | 5 => decide (b 5 ≤ 1 ∧ b 6 ≤ 1)
  | 7 => decide (b 3 < 64 ∧ w 4 < 4096)
  | 8 => decide (w 1 ≤ 512 ∧ b 3 < 64 ∧ b 4 < 16)
  | 9 => decide (b 1 ≤ 7 ∧ (b 4 ≤ 5 ∨ b 4 = 255) ∧ b 7 ≤ 1 ∧ (b 2, b 3) ≠ (b 5, b 6))
  | 10 | 11 => decide (b 1 ≤ 7)
  | 12 => decide (w 2 ≤ 4095 ∧ 1 ≤ w 4 ∧ w 4 ≤ 4095 ∧ 2 ≤ b 6 ∧ b 6 ≤ 16 ∧ b 7 ≤ 1 ∧ b 8 ≤ 1)
  | 14 => decide (b 1 ≤ 3 ∧ 1 ≤ w 2)
  | 15 => decide (b 1 ≤ 3)
  | 16 =>
    decide
      (1 ≤ b 1 ∧ b 1 ≤ 17 ∧ (p.range (b 1)).1 ≤ w 2 ∧ w 2 ≤ (p.range (b 1)).2 ∧ (b 1 = 3 → w 2 < p.staleLimit))
  | 17 => decide (1 ≤ b 1 ∧ b 1 ≤ 17)
  | 18 => decide (b 2 ≤ 1)
  | 20 => decide (b 1 ≤ 1)
  | _ => true

/-- The status of the first of checks 1 to 4 that a request fails (R178). -/
def firstFailure (p : Params) (kind : Byte) (body : List Byte) : Option Status :=
  if kind = 0x00#8 ∨ 0x14#8 < kind then some .unknownKind
  else if body.length ∉ bodyLengths kind then some .length
  else if ∃ f ∈ keyFields kind, f.2 ≤ (body.getD f.1 0).toNat then some .badKey
  else if otherFieldsFit p kind body = false then some .badValue
  else none

/-! ## Aliases and lookups (R124 to R126) -/

/-- An alias entry matches a lookup's key (R124). -/
abbrev AliasEntry.Matching (a : AliasEntry) (key : Key) : Prop :=
  a.sourceLink = key.link ∧ a.sourceChannel = key.channel ∧ (a.tone = none ∨ a.tone = some key.tone)

/-- No alias entry matches the key. -/
abbrev State.Unaliased (s : State) (key : Key) : Prop := ∀ (i : Fin 8) a, s.aliases[i] = some a → ¬a.Matching key

/-- The matching entry of the lowest index (R124). -/
abbrev State.FirstMatch (s : State) (key : Key) (a : AliasEntry) : Prop :=
  ∃ i : Fin 8, s.aliases[i] = some a ∧ a.Matching key ∧ ∀ j < i, ∀ b, s.aliases[j] = some b → ¬b.Matching key

/-- A record in a state that is served with values (R121). -/
abbrev Record.Serving (r : Record) : Prop := r.state = .valid ∨ r.state = .due ∨ r.state = .suspect

/-- The key has no record, or one that is not served with values (R126). -/
abbrev State.NotServing (s : State) (key : Key) : Prop := s.Lacks key ∨ ∃ n x, s.Holds key n x ∧ ¬x.Serving

/-! ## Request bodies (10.2) -/

def keyBody (id : Byte) (key : Key) : List Byte := id :: key.bytes

def createBody (id : Byte) (key : Key) (policy : Policy) (pin : Bool) (values : Option Values) : List Byte :=
  id :: (key.bytes ++ [policy.code, switchCode pin] ++ (values.map Values.bytes).getD [])

def loadBody (id : Byte) (key : Key) (values : Values) : List Byte := id :: (key.bytes ++ values.bytes)

def aliasSetBody (id : Byte) (index : Fin 8) (e : AliasEntry) : List Byte :=
  [id, byte index.val, byte e.sourceLink.val, byte e.sourceChannel.val, aliasToneCode e.tone, byte e.targetLink.val,
    byte e.targetChannel.val, e.mode.code]

def tonePlanBody (id : Byte) (tone : Fin 6) (p : TonePlan) (invalidate : Bool) : List Byte :=
  [id, byte tone.val] ++ bytes2 p.phaseInit ++ bytes2 p.phaseStep ++ [byte p.pointCount, switchCode p.capture, switchCode invalidate]

/-- A tone plan in its ranges (R83). -/
abbrev TonePlan.InRange (p : TonePlan) : Prop :=
  p.phaseInit ≤ 4095 ∧ 1 ≤ p.phaseStep ∧ p.phaseStep ≤ 4095 ∧ 2 ≤ p.pointCount ∧ p.pointCount ≤ 16

/-- A key as its four bytes. -/
def Key.raw (k : Key) : RawKey :=
  { link := byte k.link.val, channel := byte k.channel.val, tone := byte k.tone.val, gain := byte k.gain.val }

end Sys2Proof.Machine

namespace Sys2Proof

/-- The key of four bytes as written, when every field is in its range (R1). -/
abbrev RawKey.InRange (k : RawKey) : Prop := k.link.toNat < 4 ∧ k.channel.toNat < 8 ∧ k.tone.toNat < 6 ∧ k.gain.toNat < 12

end Sys2Proof
end

