-- ==== Sys2Proof/WellFormed.lean ====
section
/-! DEFINITION. Which commands name a step of the part: the checks on operands that the rows of the opcode table put on them.
`exec` is total and needs none of them; an ill-formed command acts as the message it carries does (log 11). -/

namespace Sys2Proof

/-- A request body that a request write can deliver: at most 260 bytes (R168). -/
def requestBodyFits (body : List Byte) : Bool := body.length ≤ Config.maxRequestBody

/-- A frame body that the receiver can take: at most 40 bytes (R141). -/
def frameBodyFits (body : List Byte) : Bool := body.length ≤ Config.maxFrameBody

/-- A byte that is 00h or 01h: the codes of a two-setting field (10.1). -/
def isSwitch (b : Byte) : Bool := b == 0x00#8 || b == 0x01#8

/-- A SET_POLICY that the rows SET_POLICY_FIXED and SET_POLICY_AUTO name (R183). -/
def namesPolicy (body : List Byte) : Bool := body.length == 7 && isSwitch (body.getD 5 0)

/-- A LINK_CONTROL that the rows LINK_CONTROL_DISABLE and LINK_CONTROL_ENABLE name (R195). -/
def namesAction (body : List Byte) : Bool := body.length == 3 && isSwitch (body.getD 2 0)

/-- A SOFT_RESET that the rows SOFT_RESET_TABLE and SOFT_RESET_FULL name (R197). -/
def namesScope (body : List Byte) : Bool := body.length == 2 && isSwitch (body.getD 1 0)

/-- A front-end kind with its required body length, or a HELLO_ACK of any length: frames that rows of their own name (R142). -/
def namesFrame (kind : Byte) (length : Nat) : Bool :=
  kind == 0x11#8 || (kind == 0x12#8 && length == 4) || (kind == 0x13#8 && length == 6) || (kind == 0x14#8 && length == 1)
    || (kind == 0x15#8 && length == 2) || (kind == 0x16#8 && length == 0)

/-- The command names a step of the part. -/
def Instr.wellFormed : Instr → Bool
  | .powerOnReset _ => true
  | .rstNAsserted => true
  | .requestWrite _ _ _ => true
  | .replyRead _ _ _ => true
  | .portStatus _ _ _ => true
  | .commandByteUnknown cmd _ _ _ => cmd != 0x6E#8 && cmd != 0x9B#8 && cmd != 0x3C#8
  | .unknownKind kind body => 0x14#8 < kind && requestBodyFits body
  | .create body => requestBodyFits body
  | .load body => requestBodyFits body
  | .read body => requestBodyFits body
  | .retire body => requestBodyFits body
  | .setPolicyFixed _ _ _ => true
  | .setPolicyAuto _ _ _ => true
  | .refresh body => requestBodyFits body
  | .refreshScope body => requestBodyFits body
  | .scan body => requestBodyFits body
  | .aliasSet body => requestBodyFits body
  | .aliasClear body => requestBodyFits body
  | .aliasRead body => requestBodyFits body
  | .tonePlanSet body => requestBodyFits body
  | .tonePlanRead body => requestBodyFits body
  | .levelSet body => requestBodyFits body
  | .levelRead body => requestBodyFits body
  | .configSet body => requestBodyFits body
  | .configGet body => requestBodyFits body
  | .linkControlDisable _ _ => true
  | .linkControlEnable _ _ => true
  | .status body => requestBodyFits body
  | .softResetTable _ => true
  | .softResetFull _ => true
  | .epochExpiry => true
  | .retryCountdownExpiry slot => slot < Config.slotCount
  | .dispatch => true
  | .partnerCheck _ => true
  | .requestTimerExpiry _ => true
  | .waitTimerExpiry _ => true
  | .helloTimerExpiry _ => true
  | .outboundFrameSent _ => true
  | .frameCheckFailure _ _ _ => true
  | .incompleteFrame _ => true
  | .helloAck _ body => frameBodyFits body
  | .lookup _ _ _ _ _ => true
  | .calResult _ _ _ _ _ => true
  | .calDeclined _ _ => true
  | .driftAlert _ _ _ => true
  | .goodbye _ => true
  | .unknownFrameKind _ kind body => frameBodyFits body && !namesFrame kind body.length
  | .setPolicyRefused body => requestBodyFits body && !namesPolicy body
  | .linkControlRefused body => requestBodyFits body && !namesAction body
  | .softResetRefused body => requestBodyFits body && !namesScope body

end Sys2Proof
end

