-- ==== Sys2Proof/Certificates/Slice0/Obligations.lean ====
section
/-! DEFINITION. The statements about the K416 for the provers. -/

open Sys2Proof Sys2Proof.Machine

/-! ## The step and the commands -/

/-- The part runs the command at the front of its queue on the state with the queue's rest. On an empty queue it idles: the model's
choice (log 2), as is the queue itself (log 1). -/
def Obligations.StepRunsFrontCommand : Prop :=
  (∀ (c : Instr) (rest : List Instr) (s : State), step { s with pending := c :: rest } = exec c { s with pending := rest })
    ∧ ∀ s : State, s.pending = [] → step s = .next s

/-- Every command answers a next state and leaves the waiting commands alone: the manual stops the part nowhere (log 19). -/
def Obligations.EveryCommandAnswersAndKeepsQueue : Prop :=
  ∀ (c : Instr) (s : State), ∃ t, exec c s = .next t ∧ t.pending = s.pending

/-! ## Invariants that every step keeps -/

/-- The state after power-on reset is safe in every sense below. -/
def Obligations.ResetIsSafe : Prop :=
  State.reset.PoolOk ∧ State.reset.RecordsOk ∧ State.reset.IntervalsOk ∧ State.reset.host.OutboundOk
    ∧ State.reset.host.InboundOk ∧ State.reset.RefreshOk ∧ State.reset.SweepsOk ∧ State.reset.TagsOk

/-- R26, R27: a record keeps its slot's place in ascending order, below 512, and no two records come to hold one key. -/
def Obligations.TableStaysOrderedWithDistinctKeys : Prop :=
  ∀ s t : State, s.TableOk → step s = .next t → t.TableOk

/-- R38: the points of all profiles and the free points are 2048 after every step. -/
def Obligations.PointPoolStaysConserved : Prop :=
  ∀ s t : State, s.PoolOk → step s = .next t → t.PoolOk

/-- R2, R7, R12: no step leaves a record with values, a profile or a fail count that its state does not allow. -/
def Obligations.RecordsStaySound : Prop :=
  ∀ s t : State, s.RecordsOk → step s = .next t → t.RecordsOk

/-- R59: every interval stays between BASE_INTERVAL and INTERVAL_CAP, and the cadence relation stays. The bounds of GROWTH and
STALE_LIMIT that carry it are those of 10.6. -/
def Obligations.IntervalsStayWithinCadence : Prop :=
  ∀ s t : State, s.IntervalsOk → step s = .next t → t.IntervalsOk

/-- R169, R170: the outbound queue never holds more than 48 messages or 32 notices, and its overflow state keeps its meaning. R165 to
R168: every byte of the inbound buffer stays free or accounted for by one message. -/
def Obligations.HostPortBuffersStayBounded : Prop :=
  (∀ s t : State, s.host.OutboundOk → step s = .next t → t.host.OutboundOk)
  ∧ (∀ s t : State, s.host.InboundOk → step s = .next t → t.host.InboundOk)

/-- R65, R66: queue, standings and engines keep telling one story. -/
def Obligations.RefreshStandingsStayCoherent : Prop :=
  ∀ s t : State, s.RefreshOk → step s = .next t → t.RefreshOk

/-- R86, R87, R150: at most one sweep on any link, on UP links only, link and engine awaiting the same number. -/
def Obligations.SweepsStayExclusivePerLink : Prop :=
  ∀ s t : State, s.SweepsOk → step s = .next t → t.SweepsOk

/-- R149: the outstanding tags stay the tags of the CORRECTIONs that wait, whatever the free value of log 7 is. -/
def Obligations.OutstandingTagsMatchCorrections : Prop :=
  ∀ s t : State, s.TagsOk → step s = .next t → t.TagsOk

/-! ## The reset pin -/

/-- POWER_ON_RESET puts every block in its power-on state, whatever the state was. A CS_N that is low at the release makes the port
wait for its rise. The waiting commands and the count of free values are the model's and are kept (log 7, log 18).
RST_N_ASSERTED: ATTN_N goes high and MISO high impedance, and no command but the release acts. That the other blocks hold their
state while RST_N is low is the model's choice (log 6). -/
def Obligations.ResetPinStartsAndHoldsPart : Prop :=
  (∀ (csLow : Bool) (s : State), ∃ t, exec (.powerOnReset csLow) s = .next t
    ∧ t.table = [] ∧ t.poolFree = 2048 ∧ t.epochCount = 0 ∧ t.epoch = { length := 1000, left := 1000 }
    ∧ t.queue = { prio := [], back := [] } ∧ t.se0 = none ∧ t.se1 = none ∧ (∀ i : Fin 8, t.aliases[i] = none)
    ∧ (∀ l : LinkId, t.link l =
        { state := .down, partner := none, sequence := 0, awaited := none, timeouts := 0, faults := 0, tags := [],
          out := [{ body := .hello l, orphan := false }], hello := some 10, refusalReported := false, rx := [], txLast := [] })
    ∧ t.host.requests = [] ∧ t.host.inboundFree = 1024 ∧ t.host.txn = (if csLow then .waitRise else .none)
    ∧ t.host.out = [] ∧ t.host.overflow = .clear ∧ t.host.overflowCount = 0 ∧ t.attnHigh = true
    ∧ t.store.params =
        { epochMs := 1000, baseInterval := 60, intervalCap := 1800, growth := 2, streakMin := 2, staleLimit := 3600,
          retryDelay := 5, failLimit := 3, tolOffset := 64, tolScale := 32, tolPhase := 8, spreadLimit := 40,
          calTimeoutMs := 5, declineWaitMs := 1, declineLimit := 8, autocreateMask := 0, noticeMask := 107 }
    ∧ (∀ i : Fin 6, t.store.plans[i] = { phaseInit := 0, phaseStep := 512, pointCount := 8, capture := false })
    ∧ t.store.levels = #v[40000, 20000, 10000, 5000] ∧ (∀ l : Fin 4, t.store.enabled[l] = true)
    ∧ t.rstN = true ∧ t.pending = s.pending ∧ t.freeCount = s.freeCount)
  ∧ (∀ s : State, exec .rstNAsserted s = .next { s with rstN := false }
    ∧ ({ s with rstN := false } : State).attnHigh = true ∧ ({ s with rstN := false } : State).misoHighZ = true
    ∧ ∀ c : Instr, (∀ low, c ≠ .powerOnReset low) → exec c { s with rstN := false } = .next { s with rstN := false })

/-! ## The host port -/

/-- REQUEST_WRITE: after any number of idle bytes, a framed message that fits becomes the newest whole request and takes 3 + L bytes
of the buffer; MISO shifts 00h. -/
def Obligations.RequestWriteStoresMessage : Prop :=
  ∀ (s : State) (idle : Nat) (kind : Byte) (body : List Byte),
    s.rstN = true → s.host.txn = .none → kind ≠ 0x00#8 → body.length ≤ 260 → 3 + body.length ≤ s.host.inboundFree →
    exec (.requestWrite true (List.replicate idle 0x00#8 ++ hostFrame kind body) true) s =
      .next
        { s with
          host :=
            { s.host with
              requests := s.host.requests ++ [{ kind := kind, body := body }]
              inboundFree := s.host.inboundFree - (3 + body.length)
              miso := List.replicate (idle + body.length + 4) 0x00#8 } }

/-- REQUEST_WRITE, the three ways in which a message is not stored: a length above 260 (HOST_FRAMING LENGTH, the rest ignored), a
message that does not fit (HOST_OVERRUN, its body consumed), a rise of CS_N in the middle of a message that fits (HOST_FRAMING
CS_RISE, its bytes freed). The bytes received that the notice counts are the model's reading (log 12). -/
def Obligations.RequestWriteReportsLostMessage : Prop :=
  ∀ (s : State) (kind : Byte), s.rstN = true → s.host.txn = .none → kind ≠ 0x00#8 →
    (∀ (high low : Byte) (rest : List Byte), 260 < high.toNat * 256 + low.toNat →
      exec (.requestWrite true (kind :: high :: low :: rest) true) s =
        .next
          { s.emit (.hostFraming .length kind 3) with
            host := { (s.emit (.hostFraming .length kind 3)).host with miso := List.replicate (rest.length + 4) 0x00#8 } })
    ∧ (∀ body : List Byte, body.length ≤ 260 → s.host.inboundFree < 3 + body.length →
      exec (.requestWrite true (hostFrame kind body) true) s =
        .next
          { s.emit (.hostOverrun kind body.length s.host.inboundFree) with
            host :=
              { (s.emit (.hostOverrun kind body.length s.host.inboundFree)).host with
                miso := List.replicate (body.length + 4) 0x00#8 } })
    ∧ (∀ (body : List Byte) (n : Nat), body.length ≤ 260 → 3 + body.length ≤ s.host.inboundFree → 0 < n → n < 3 + body.length →
      exec (.requestWrite true ((hostFrame kind body).take n) true) s =
        .next
          { s.emit (.hostFraming .csRise kind n) with
            host := { (s.emit (.hostFraming .csRise kind n)).host with miso := List.replicate (n + 1) 0x00#8 } })

/-- REPLY_READ: with no overflow, a read long enough shifts every queued message whole and in join order, then 00h, and leaves the
queue empty. -/
def Obligations.ReplyReadShiftsWholeQueue : Prop :=
  ∀ (s : State) (k : Nat), s.rstN = true → s.host.txn = .none → s.host.OutboundOk → s.host.overflow = .clear →
    exec (.replyRead true ((s.host.out.flatMap (HostMsg.bytes · 0)).length + k) true) s =
      .next
        { s with
          host :=
            { s.host with
              out := []
              miso := 0x00#8 :: (s.host.out.flatMap (HostMsg.bytes · 0) ++ List.replicate k 0x00#8) } }

/-- REPLY_READ cut short, and the report of lost notices. A read that ends before the head message's last byte leaves the queue as it
was (R172). A NOTICE_OVERFLOW alone in the queue leaves with its count and clears the overflow state; one that leaves after further
notices were counted is followed at the tail by another that carries their number (R171). A held overflow joins when a message leaves
(R170). -/
def Obligations.ReplyReadLosesNothing : Prop :=
  (∀ (s : State) (m : HostMsg) (rest : List HostMsg) (n : Nat), s.rstN = true → s.host.txn = .none → s.host.out = m :: rest →
    n < (m.bytes s.host.overflowCount).length →
    ∃ t, exec (.replyRead true n true) s = .next t ∧ t.host.out = s.host.out
      ∧ t.host.miso = 0x00#8 :: (m.bytes s.host.overflowCount).take n ∧ t.host.overflow = s.host.overflow
      ∧ t.host.overflowCount = s.host.overflowCount ∧ t.host.requests = s.host.requests
      ∧ t.host.inboundFree = s.host.inboundFree ∧ t.host.txn = .none ∧ { t with host := s.host } = s)
  ∧ (∀ s : State, s.rstN = true → s.host.txn = .none → s.host.out = [.overflow] → s.host.overflow = .queued →
    exec (.replyRead true 5 true) s =
      .next
        { s with
          host :=
            { s.host with
              out := []
              overflow := .clear
              overflowCount := 0
              overflowSince := 0
              miso := 0x00#8 :: hostFrame 0xEF#8 (bytes2 s.host.overflowCount) } })
  ∧ (∀ (h : HostPort) (rest : List HostMsg), h.out = .overflow :: rest → h.overflow = .queued → h.overflowSince ≠ 0 →
    h.leave = { h with out := rest ++ [.overflow], overflowCount := h.overflowSince, overflowSince := 0 })
  ∧ (∀ (h : HostPort) (m : HostMsg) (rest : List HostMsg), h.out = m :: rest → h.overflow = .held →
    h.leave = { h with out := rest ++ [.overflow], overflow := .queued, overflowSince := 0 })

/-- R173: PORT_STATUS shifts the five bytes of the port status, then 00h, and changes nothing else. COMMAND_BYTE_UNKNOWN shifts 00h and
emits HOST_FRAMING with reason COMMAND, the command byte in place of a kind and 0 bytes received. -/
def Obligations.PortStatusAndUnknownCommandByte : Prop :=
  (∀ (s : State) (n : Nat), s.rstN = true → s.host.txn = .none →
    exec (.portStatus true n true) s =
      .next
        { s with
          host :=
            { s.host with
              miso :=
                0x00#8 ::
                  ((bytes2 s.host.inboundFree
                    ++ [byte s.host.out.length, byte (s.host.out.countP HostMsg.isNotice),
                      if s.host.overflow = .clear then 0x00#8 else 0x01#8]
                    ++ List.replicate n 0x00#8).take n) } })
  ∧ (∀ (s : State) (cmd : Byte) (n : Nat), s.rstN = true → s.host.txn = .none → cmd ≠ 0x6E#8 → cmd ≠ 0x9B#8 → cmd ≠ 0x3C#8 →
    exec (.commandByteUnknown cmd true n true) s =
      .next
        { s.emit (.hostFraming .command cmd 0) with
          host :=
            { (s.emit (.hostFraming .command cmd 0)).host with miso := List.replicate (n + 1) 0x00#8 } })

/-- How a notice claims a place, by the overflow state and the room (R170), and that a notice whose kind is off claims none
(R169). -/
def Obligations.NoticeClaimsPlace : Prop :=
  (∀ (h : HostPort) (n : Notice),
    (h.overflow = .clear → h.out.length + (if h.heldPlace then 1 else 0) < 48 → h.out.countP HostMsg.isNotice < 31 →
      h.claim n = { h with out := h.out ++ [.notice n] })
    ∧ (h.overflow = .clear → h.out.length + (if h.heldPlace then 1 else 0) < 48 → h.out.countP HostMsg.isNotice = 31 →
      h.claim n = { h with out := h.out ++ [.overflow], overflow := .queued, overflowCount := 1, overflowSince := 0 })
    ∧ (h.overflow = .clear → 48 ≤ h.out.length + (if h.heldPlace then 1 else 0) →
      h.claim n = { h with overflow := .held, overflowCount := 1 })
    ∧ (h.overflow ≠ .clear → h.overflowCount ≤ 65535 →
      (h.claim n).out = h.out ∧ (h.claim n).overflow = h.overflow ∧ (h.claim n).overflowCount = min (h.overflowCount + 1) 65535))
  ∧ ∀ (s : State) (n : Notice), namesWide s.params.noticeMask n.maskBit = false → s.emit n = s

/-! ## Taking requests -/

/-- A request that can be taken is answered once, in one claim: it leaves the inbound buffer, its reply joins behind every notice of
the claim and echoes kind and request id (00h for an empty body), and every earlier reply stays ahead of it in order. A reply with
neither OK nor QUEUE_FULL carries no body, and then nothing but the Host Port has changed and no notice was emitted. While the outbound
queue is full the request waits. -/
def Obligations.EveryRequestAnsweredOnce : Prop :=
  ∀ (c : Instr) (kind : Byte) (body : List Byte) (s : State), requestOf c = some (kind, body) →
    (s.Takes kind body →
      ∃ t r, exec c s = .next t ∧ r.kind = kind ∧ r.id = body.headD 0x00#8
        ∧ t.host.out.getLast? = some (.reply r)
        ∧ t.host.out.filter (fun m => !m.isNotice) = s.host.out.filter (fun m => !m.isNotice) ++ [.reply r]
        ∧ t.host.requests = s.host.requests.tail
        ∧ t.host.inboundFree = s.host.inboundFree + ((s.host.requests.take 1).map fun q => 3 + q.body.length).sum
        ∧ t.host.heldPlace = false ∧ t.host.txn = s.host.txn
        ∧ (r.status ≠ .ok → r.status ≠ .queueFull → r.payload = [] ∧ t = { s with host := s.replied r }))
    ∧ (48 ≤ s.host.out.length → exec c s = .next s)

/-- The checks of R178, for every request row and every body. A request that fails one of checks 1 to 4 is answered with the status of
the first that it fails (`firstFailure`: UNKNOWN_KIND, LENGTH, BAD_KEY, BAD_VALUE), and nothing but the Host Port changes. A request
that passes them is answered with none of these four, and one that names a key that no record holds (LOAD, READ, RETIRE, SET_POLICY,
REFRESH) is answered NO_RECORD. Which row a message that names no setting belongs to is the model's reading (log 11): the answer
depends on the message alone. -/
def Obligations.RequestChecksAnswerFirstFailure : Prop :=
  ∀ (s : State) (c : Instr) (kind : Byte) (body : List Byte), requestOf c = some (kind, body) → s.Takes kind body →
    let answer (status : Status) : Host.Outcome State Fault Refusal :=
      .next { s with host := s.replied { kind := kind, id := body.headD 0x00#8, status := status, payload := [] } }
    (∀ status, firstFailure s.params kind body = some status → exec c s = answer status)
    ∧ (firstFailure s.params kind body = none →
      (∃ t r, exec c s = .next t ∧ t.host.out.getLast? = some (.reply r) ∧ r.kind = kind ∧ r.id = body.headD 0x00#8
        ∧ r.status ∉ [Status.unknownKind, .length, .badKey, .badValue])
      ∧ (kind ∈ [0x02#8, 0x03#8, 0x04#8, 0x05#8, 0x06#8] →
        (∀ e ∈ s.table, e.2.key.raw ≠ ⟨body.getD 1 0, body.getD 2 0, body.getD 3 0, body.getD 4 0⟩) → exec c s = answer .noRecord))

/-! ## Record requests -/

/-- CREATE of a record with values or of policy FIXED: it takes the lowest free slot with the fields of R16, every other slot and
everything else is unchanged, and the reply carries the slot. A key that is held is answered EXISTS, a table without a free slot
TABLE_FULL, and nothing else changes (R29). -/
def Obligations.CreateStoresRecord : Prop :=
  ∀ (s : State) (id : Byte) (key : Key) (policy : Policy) (pin : Bool) (values : Option Values),
    s.Takes 0x01#8 (createBody id key policy pin values) → (∀ v ∈ values, v.InRange) →
    (∀ n, s.Lacks key → s.LowestFree n → values ≠ none ∨ policy = .fixed →
      ∃ t, exec (.create (createBody id key policy pin values)) s = .next t
        ∧ Table.DiffersAt s.table t.table n
            (some
              { key := key
                state := if values = none then .pending else .valid
                policy := policy
                pin := pin
                held := values.map fun v => { values := v, origin := .host }
                generation := if values = none then 0x00#8 else 0x01#8
                age := 0
                interval := s.params.baseInterval
                streak := 0
                failCount := 0
                standing := .idle
                lastUse := s.epochCount
                profile := none })
        ∧ t.host = s.replied { kind := 0x01#8, id := id, status := .ok, payload := bytes2 n }
        ∧ { t with table := s.table, host := s.host } = s)
    ∧ (¬s.Lacks key →
      exec (.create (createBody id key policy pin values)) s =
        .next { s with host := s.replied { kind := 0x01#8, id := id, status := .keyExists, payload := [] } })
    ∧ (s.Lacks key → (∀ n < 512, Table.get s.table n ≠ none) →
      exec (.create (createBody id key policy pin values)) s =
        .next { s with host := s.replied { kind := 0x01#8, id := id, status := .tableFull, payload := [] } })

/-- CREATE of an AUTO record without values: the record stands in the lowest free slot, PENDING and WAITING(FIRST), and is offered its
FIRST join within the claim; what the offer does is `OfferDecidedByQueue`. The reply carries the slot. -/
def Obligations.CreateOffersFirstJoin : Prop :=
  ∀ (s : State) (id : Byte) (key : Key) (pin : Bool) (n : Nat),
    s.Takes 0x01#8 (createBody id key .auto pin none) → s.Lacks key → s.LowestFree n →
    ∃ u : State, Table.DiffersAt s.table u.table n
        (some
          { key := key, state := .pending, policy := .auto, pin := pin, held := none, generation := 0x00#8, age := 0,
            interval := s.params.baseInterval, streak := 0, failCount := 0, standing := .waiting .first,
            lastUse := s.epochCount, profile := none })
      ∧ { u with table := s.table } = s
      ∧ exec (.create (createBody id key .auto pin none)) s =
          .next
            { (u.offer n key .first).1 with
              host := s.replied { kind := 0x01#8, id := id, status := .ok, payload := bytes2 n } }

/-- The offer of a place. A record of an OFF link is held. A priority join takes the tail of the priority section, on a full queue by
displacing the newest back entry, whose record returns to WAITING with the entry's cause, and fails against 64 priority entries. A
back join takes the tail of the queue and fails on a full one. A join that places an entry makes the record QUEUED and a consideration
of dispatch due. -/
def Obligations.OfferDecidedByQueue : Prop :=
  ∀ (s : State) (slot : Nat) (key : Key) (cause : Cause),
    let e : QEntry := { slot := slot, key := key, cause := cause }
    ((s.link key.link).state = .off → s.offer slot key cause = (s, .held))
    ∧ ((s.link key.link).state ≠ .off →
      (s.queue.length < 64 → cause = .first ∨ cause = .requested →
        s.offer slot key cause =
          ({ s with queue := { s.queue with prio := s.queue.prio ++ [e] }, considerDue := true }.setStanding slot (.queued cause), .joined))
      ∧ (s.queue.length < 64 → cause = .scheduled ∨ cause = .retry →
        s.offer slot key cause =
          ({ s with queue := { s.queue with back := s.queue.back ++ [e] }, considerDue := true }.setStanding slot (.queued cause), .joined))
      ∧ (∀ newest, 64 ≤ s.queue.length → s.queue.back.getLast? = some newest → cause = .first ∨ cause = .requested →
        s.offer slot key cause =
          (({ s with
              queue := { prio := s.queue.prio ++ [e], back := s.queue.back.dropLast }
              considerDue := true }.setStanding newest.slot (.waiting newest.cause)).setStanding slot (.queued cause),
            .joinedDisplacing))
      ∧ (64 ≤ s.queue.length → s.queue.back = [] → cause = .first ∨ cause = .requested →
        s.offer slot key cause = (s, .failed))
      ∧ (64 ≤ s.queue.length → cause = .scheduled ∨ cause = .retry → s.offer slot key cause = (s, .failed)))

/-- LOAD of a record that is not under sweep: the four values with origin HOST, generation moved on, age, fail count and streak 0,
interval BASE_INTERVAL, VALID and IDLE, the profile's points free again, its queue entry gone; policy, pin, last use, every other
record and everything else unchanged. The reply carries the slot and the generation after. -/
def Obligations.LoadReplacesValues : Prop :=
  ∀ (s : State) (id : Byte) (v : Values) (slot : Nat) (r : Record),
    s.Takes 0x02#8 (loadBody id r.key v) → v.InRange → s.Holds r.key slot r → (∀ e, r.standing ≠ .sweeping e) →
    ∃ t, exec (.load (loadBody id r.key v)) s = .next t
      ∧ Table.DiffersAt s.table t.table slot
          (some
            { r with
              held := some { values := v, origin := .host }
              generation := r.generation + 1
              age := 0
              failCount := 0
              interval := s.params.baseInterval
              streak := 0
              state := .valid
              standing := .idle
              profile := none })
      ∧ t.poolFree = s.poolFree + r.profilePoints ∧ t.queue = s.queueWithout slot r
      ∧ t.host = s.replied { kind := 0x02#8, id := id, status := .ok, payload := bytes2 slot ++ [r.generation + 1] }
      ∧ { t with table := s.table, poolFree := s.poolFree, queue := s.queue, host := s.host } = s

/-- READ and STATUS report and change nothing else. READ's image is the 24 bytes of the fixed part, then values and origin, then the
profile, in the layout of 10.3, the cause of a SWEEPING record being its engine's. STATUS's body is the 37 bytes of R199. -/
def Obligations.ReadAndStatusReport : Prop :=
  (∀ (s : State) (id : Byte) (slot : Nat) (r : Record), s.Takes 0x03#8 (keyBody id r.key) → s.Holds r.key slot r →
    ∃ cause detail present, exec (.read (keyBody id r.key)) s =
        .next
          { s with
            host :=
              s.replied
                { kind := 0x03#8
                  id := id
                  status := .ok
                  payload :=
                    bytes2 slot ++ r.key.bytes ++ [r.state.code, r.policy.code, switchCode r.pin, present, r.generation]
                      ++ bytes2 r.age ++ bytes2 r.interval ++ [byte r.streak, byte r.failCount, r.standing.code, cause, detail]
                      ++ bytes4 r.lastUse
                      ++ (r.held.map fun h => h.values.bytes ++ [h.origin.code]).getD []
                      ++ (r.profile.map fun p =>
                          [byte p.level.val, byte p.points.length]
                            ++ p.points.flatMap fun x => bytes2 x.magnitude ++ bytes2 x.phase).getD [] } }
      ∧ (present.getLsbD 0 = r.held.isSome ∧ present.getLsbD 1 = r.profile.isSome ∧ present < 0x04#8)
      ∧ (∀ c, r.standing = .waiting c ∨ r.standing = .queued c → cause = c.code ∧ detail = 0x00#8)
      ∧ (∀ e w, r.standing = .sweeping e → s.sweep e = some w → cause = w.cause.code ∧ detail = engineCode e)
      ∧ (∀ n, r.standing = .retry n → cause = 0xFF#8 ∧ detail = byte n)
      ∧ (r.standing = .idle → cause = 0xFF#8 ∧ detail = 0x00#8))
  ∧ (∀ (s : State) (id : Byte), s.Takes 0x13#8 [id] →
    exec (.status [id]) s =
      .next
        { s with
          host :=
            s.replied
              { kind := 0x13#8
                id := id
                status := .ok
                payload :=
                  bytes2 s.table.length
                    ++ ([RecState.pending, .valid, .due, .suspect, .stale, .faulted].flatMap fun st =>
                        bytes2 (s.table.filter fun e => e.2.state == st).length)
                    ++ bytes2 s.poolFree ++ bytes4 s.epochCount ++ [byte s.queue.length, byte s.queue.prio.length]
                    ++ ([s.se0, s.se1].flatMap fun w =>
                        match w with
                        | none => [0x00#8, 0xFF#8, 0xFF#8, 0xFF#8, 0xFF#8]
                        | some w => (if w.mode = .measure then 0x01#8 else 0x02#8) :: w.key.bytes)
                    ++ ([0, 1, 2, 3].map fun l : LinkId => (s.link l).state.code) ++ [0x01#8] } })

/-- RETIRE of a record that is not under sweep: its slot is free, its profile's points return to the pool, its queue entry is gone,
pinned or not; every other record and everything else is unchanged. The reply carries the slot. -/
def Obligations.RetireRemovesRecord : Prop :=
  ∀ (s : State) (id : Byte) (slot : Nat) (r : Record),
    s.Takes 0x04#8 (keyBody id r.key) → s.Holds r.key slot r → (∀ e, r.standing ≠ .sweeping e) →
    ∃ t, exec (.retire (keyBody id r.key)) s = .next t
      ∧ Table.DiffersAt s.table t.table slot none
      ∧ t.poolFree = s.poolFree + r.profilePoints ∧ t.queue = s.queueWithout slot r
      ∧ t.host = s.replied { kind := 0x04#8, id := id, status := .ok, payload := bytes2 slot }
      ∧ { t with table := s.table, poolFree := s.poolFree, queue := s.queue, host := s.host } = s

/-- SET_POLICY FIXED of a record that is not under sweep. An AUTO record becomes FIXED and IDLE with fail count 0, its queue entry
gone, and DUE, STALE and SUSPECT become VALID; a FIXED one takes the pin alone. The reply carries the slot and the state after. -/
def Obligations.SetPolicyFixedTakesRecordOver : Prop :=
  ∀ (s : State) (id : Byte) (pin : Bool) (slot : Nat) (r : Record),
    s.Takes 0x05#8 [id, r.key.raw.link, r.key.raw.channel, r.key.raw.tone, r.key.raw.gain, 0x01#8, switchCode pin] →
    s.Holds r.key slot r → (∀ e, r.standing ≠ .sweeping e) →
    let after : Record :=
      if r.policy = .auto then
        { r with
          policy := .fixed
          pin := pin
          standing := .idle
          failCount := 0
          state := if r.state = .due ∨ r.state = .stale ∨ r.state = .suspect then .valid else r.state }
      else { r with pin := pin }
    ∃ t, exec (.setPolicyFixed id r.key.raw (switchCode pin)) s = .next t
      ∧ Table.DiffersAt s.table t.table slot (some after)
      ∧ t.queue = (if r.policy = .auto then s.queueWithout slot r else s.queue)
      ∧ t.host = s.replied { kind := 0x05#8, id := id, status := .ok, payload := bytes2 slot ++ [after.state.code] }
      ∧ { t with table := s.table, queue := s.queue, host := s.host } = s

/-- SET_POLICY AUTO. An AUTO record takes the pin alone. A FIXED record becomes AUTO by its state and age: PENDING seeks FIRST; VALID
at or above STALE_LIMIT becomes STALE, at or above its interval DUE, both seeking SCHEDULED; otherwise it stays as it is and IDLE. A
record that takes WAITING is offered a place at once. The reply carries the slot and the state after. -/
def Obligations.SetPolicyAutoHandsRecordOver : Prop :=
  ∀ (s : State) (id : Byte) (pin : Bool) (slot : Nat) (r : Record),
    s.Takes 0x05#8 [id, r.key.raw.link, r.key.raw.channel, r.key.raw.tone, r.key.raw.gain, 0x00#8, switchCode pin] →
    s.Holds r.key slot r →
    (r.policy = .auto →
      ∃ t, exec (.setPolicyAuto id r.key.raw (switchCode pin)) s = .next t
        ∧ Table.DiffersAt s.table t.table slot (some { r with pin := pin })
        ∧ t.host = s.replied { kind := 0x05#8, id := id, status := .ok, payload := bytes2 slot ++ [r.state.code] }
        ∧ { t with table := s.table, host := s.host } = s)
    ∧ (r.policy = .fixed →
      let state : RecState :=
        if r.state = .valid then
          if s.params.staleLimit ≤ r.age then .stale else if r.interval ≤ r.age then .due else .valid
        else r.state
      let cause : Option Cause :=
        if r.state = .pending then some .first else if r.state = .valid ∧ state ≠ .valid then some .scheduled else none
      ∃ u : State, Table.DiffersAt s.table u.table slot
          (some { r with policy := .auto, pin := pin, state := state, standing := (cause.map Standing.waiting).getD .idle })
        ∧ { u with table := s.table } = s
        ∧ exec (.setPolicyAuto id r.key.raw (switchCode pin)) s =
            .next
              { (match cause with
                  | some c => (u.offer slot r.key c).1
                  | none => u) with
                host := s.replied { kind := 0x05#8, id := id, status := .ok, payload := bytes2 slot ++ [state.code] } })

/-- A LOAD, a SET_POLICY FIXED or a RETIRE of a record under sweep stops the engine before it acts: the engine is IDLE, the link awaits
no number, its counter and timeout count are untouched, no request of the sweep waits, every other message of the link's outbound queue
stays there unaltered and in order, a consideration of dispatch is due, and a SWEEP_END with SUPERSEDED or ABORTED, when enabled, joins
ahead of the reply. The record is then loaded, taken over or removed as without a sweep, and nothing else changes. This holds whichever
way the free value of log 7 turns out. -/
def Obligations.HostStopsSweepFirst : Prop :=
  ∀ (s : State) (id : Byte) (pin : Bool) (v : Values) (slot : Nat) (r : Record) (e : EngineId) (w : Sweep) (c : Instr)
    (kind : Byte) (body : List Byte) (outcome : SweepOutcome) (after : Option Record) (freed : Nat) (payload : List Byte),
    let kept : RecState := if r.state = .due ∨ r.state = .stale ∨ r.state = .suspect then .valid else r.state
    (c, kind, body, outcome, after, freed, payload) ∈
      [(Instr.load (loadBody id r.key v), 0x02#8, loadBody id r.key v, SweepOutcome.superseded,
          some
            { r with
              held := some { values := v, origin := .host }
              generation := r.generation + 1
              age := 0
              failCount := 0
              interval := s.params.baseInterval
              streak := 0
              state := .valid
              standing := .idle
              profile := none },
          r.profilePoints, bytes2 slot ++ [r.generation + 1]),
        (.setPolicyFixed id r.key.raw (switchCode pin), 0x05#8,
          [id, r.key.raw.link, r.key.raw.channel, r.key.raw.tone, r.key.raw.gain, 0x01#8, switchCode pin], .superseded,
          some { r with policy := .fixed, pin := pin, standing := .idle, failCount := 0, state := kept }, 0,
          bytes2 slot ++ [kept.code]),
        (.retire (keyBody id r.key), 0x04#8, keyBody id r.key, .aborted, none, r.profilePoints, bytes2 slot)] →
    s.Takes kind body → v.InRange → s.Holds r.key slot r → r.policy = .auto → r.standing = .sweeping e → s.sweep e = some w →
    ∃ t, exec c s = .next t
      ∧ t.sweep e = none ∧ t.sweep (otherEngine e) = s.sweep (otherEngine e)
      ∧ { t.link w.key.link with awaited := (s.link w.key.link).awaited, out := (s.link w.key.link).out } = s.link w.key.link
      ∧ (t.link w.key.link).awaited = none
      ∧ (∀ m ∈ (t.link w.key.link).out, m.orphan = false → ∀ q, m.body ≠ .calRequest q)
      ∧ OnlyHeadFinishes (s.link w.key.link).out (t.link w.key.link).out
      ∧ ((t.link w.key.link).out.filter fun m => match m.body with | .calRequest _ => false | _ => true) =
          ((s.link w.key.link).out.filter fun m => match m.body with | .calRequest _ => false | _ => true)
      ∧ ((s.link w.key.link).out.filter fun m => !m.waitingCal).Sublist (t.link w.key.link).out
      ∧ (∀ l, l ≠ w.key.link → t.link l = s.link l)
      ∧ Table.DiffersAt s.table t.table slot after ∧ t.poolFree = s.poolFree + freed
      ∧ t.considerDue = true
      ∧ t.host =
          s.answered s.params.noticeMask [.sweepEnd e w.key outcome w.level w.declines false]
            { kind := kind, id := id, status := .ok, payload := payload }
      ∧ { t with
          table := s.table, poolFree := s.poolFree, se0 := s.se0, se1 := s.se1, links := s.links, host := s.host,
          considerDue := s.considerDue, freeCount := s.freeCount } = s

/-- A REQUESTED marking, by the record's standing (the table of R15). -/
def Obligations.MarkingFollowsStanding : Prop :=
  ∀ (s : State) (by' : Marker) (slot : Nat) (r : Record),
    let waitRequested := (s.setStanding slot (.waiting .requested)).offer slot r.key .requested
    (r.standing = .idle → s.mark by' slot r = (waitRequested.1, some waitRequested.2))
    ∧ (r.standing = .waiting .scheduled ∨ r.standing = .waiting .retry →
        s.mark by' slot r = (waitRequested.1, some waitRequested.2))
    ∧ (∀ c, c = .first ∨ c = .requested → r.standing = .waiting c →
        s.mark by' slot r =
          (((s.setStanding slot (.waiting c)).offer slot r.key c).1,
            some ((s.setStanding slot (.waiting c)).offer slot r.key c).2))
    ∧ (r.standing = .queued .scheduled ∨ r.standing = .queued .retry →
        s.mark by' slot r =
          ((s.withQueue
              { prio := (s.queue.prio.filter fun q => q.slot != slot) ++ [{ slot := slot, key := r.key, cause := .requested }]
                back := s.queue.back.filter fun q => q.slot != slot }).setStanding slot (.queued .requested),
            some .promoted))
    ∧ (r.standing = .queued .first ∨ r.standing = .queued .requested → s.mark by' slot r = (s, some .kept))
    ∧ (∀ n, r.standing = .retry n → s.mark .host slot r = (waitRequested.1, some waitRequested.2) ∧ s.mark .alert slot r = (s, none))
    ∧ (∀ e, r.standing = .sweeping e → s.mark by' slot r = (s, none))

/-- REFRESH, by the first row of R184 that applies: NO_RECORD, POLICY_FIXED, IN_PROGRESS, the fresh start of a FAULTED record, or the host's
marking; the reply carries slot, state after and refresh action, with QUEUE_FULL for FAILED (R185). -/
def Obligations.RefreshDecidedByRecord : Prop :=
  (∀ (s : State) (id : Byte) (key : Key), s.Takes 0x06#8 (keyBody id key) → s.Lacks key →
    exec (.refresh (keyBody id key)) s =
      .next { s with host := s.replied { kind := 0x06#8, id := id, status := .noRecord, payload := [] } })
  ∧ (∀ (s : State) (id : Byte) (slot : Nat) (r : Record), s.Takes 0x06#8 (keyBody id r.key) → s.Holds r.key slot r →
    let reply (status : Status) (payload : List Byte) : Reply := { kind := 0x06#8, id := id, status := status, payload := payload }
    let statusOf (a : RefreshAction) : Status := if a = .failed then .queueFull else .ok
    (r.policy = .fixed → exec (.refresh (keyBody id r.key)) s = .next { s with host := s.replied (reply .policyFixed []) })
    ∧ (∀ e, r.policy = .auto → r.standing = .sweeping e →
        exec (.refresh (keyBody id r.key)) s = .next { s with host := s.replied (reply .inProgress []) })
    ∧ (r.policy = .auto → (∀ e, r.standing ≠ .sweeping e) → r.state ≠ .faulted →
        ∃ a, (s.mark .host slot r).2 = some a
          ∧ exec (.refresh (keyBody id r.key)) s =
              .next
                { (s.mark .host slot r).1 with
                  host := s.replied (reply (statusOf a) (bytes2 slot ++ [r.state.code, a.code])) })
    ∧ (r.policy = .auto → (∀ e, r.standing ≠ .sweeping e) → r.state = .faulted →
        let after : RecState := if r.held = none then .pending else if r.age < s.params.staleLimit then .due else .stale
        ∃ u : State, Table.DiffersAt s.table u.table slot
            (some { r with failCount := 0, state := after, standing := .waiting .requested })
          ∧ { u with table := s.table } = s
          ∧ exec (.refresh (keyBody id r.key)) s =
              .next
                { (u.offer slot r.key .requested).1 with
                  host :=
                    s.replied
                      (reply (statusOf (u.offer slot r.key .requested).2)
                        (bytes2 slot ++ [after.code, (u.offer slot r.key .requested).2.code])) }))

/-- A link above 3 is refused with BAD_KEY, a tone or gain mask that names anything beyond its six tones or twelve gain steps with
BAD_VALUE. Otherwise REFRESH_SCOPE marks, in ascending slot order, every AUTO record in the masks that is neither FAULTED nor SWEEPING,
and answers with three counts that add up to the records marked. -/
def Obligations.RefreshScopeCountsItsMarks : Prop :=
  (∀ (s : State) (id channels tones : Byte) (link : LinkId) (gains : Nat),
    tones.toNat < 64 → gains < 4096 → s.TableOk →
    s.Takes 0x07#8 ([id, byte link.val, channels, tones] ++ bytes2 gains) →
    let marked : List Nat :=
      (s.table.filter fun e =>
        e.2.key.link == link && channels.getLsbD e.2.key.channel.val && tones.getLsbD e.2.key.tone.val
          && gains.testBit e.2.key.gain.val && e.2.policy == .auto && e.2.state != .faulted
          && e.2.standing != .sweeping .se0 && e.2.standing != .sweeping .se1).map (·.1)
    let pass := s.markPass (fun s slot r => s.mark .host slot r) marked
    let placed := pass.2.count (some .joined) + pass.2.count (some .joinedDisplacing) + pass.2.count (some .promoted)
    let left := pass.2.count (some .failed) + pass.2.count (some .held)
    let kept := pass.2.count (some .kept)
    placed + left + kept = marked.length
      ∧ exec (.refreshScope ([id, byte link.val, channels, tones] ++ bytes2 gains)) s =
          .next
            { pass.1 with
              host :=
                s.replied
                  { kind := 0x07#8, id := id, status := .ok, payload := bytes2 placed ++ bytes2 left ++ bytes2 kept } })
  ∧ (∀ (s : State) (id link channels tones : Byte) (gains : Nat), gains ≤ 65535 →
    s.Takes 0x07#8 ([id, link, channels, tones] ++ bytes2 gains) →
    let refused (status : Status) : Prop :=
      exec (.refreshScope ([id, link, channels, tones] ++ bytes2 gains)) s =
        .next { s with host := s.replied { kind := 0x07#8, id := id, status := status, payload := [] } }
    (3 < link.toNat → refused .badKey)
    ∧ (link.toNat ≤ 3 → 64 ≤ tones.toNat ∨ 4096 ≤ gains → refused .badValue))

/-- R187: SCAN lists at most 16 matching records from the start slot on, in ascending slot order, each with slot, key and state, and the
next slot: one above the last one listed when 16 were, else 512 (R42). A start slot above 512 or a mask that names a state or a link
beyond these is refused with BAD_VALUE. It changes nothing else. -/
def Obligations.ScanListsMatchingRecords : Prop :=
  ∀ (s : State) (id states links : Byte) (start : Nat),
    start ≤ 65535 → s.Takes 0x08#8 ([id] ++ bytes2 start ++ [states, links]) →
    let listed :=
      (s.table.filter fun e =>
        decide (start ≤ e.1) && states.getLsbD e.2.state.code.toNat && links.getLsbD e.2.key.link.val).take 16
    let next := if h : listed.length = 16 then (listed[15]'(by omega)).1 + 1 else 512
    (start ≤ 512 → states.toNat < 64 → links.toNat < 16 →
      exec (.scan ([id] ++ bytes2 start ++ [states, links])) s =
        .next
          { s with
            host :=
              s.replied
                { kind := 0x08#8
                  id := id
                  status := .ok
                  payload :=
                    byte listed.length
                      :: ((listed.flatMap fun e => bytes2 e.1 ++ e.2.key.bytes ++ [e.2.state.code]) ++ bytes2 next) } })
    ∧ (512 < start ∨ 64 ≤ states.toNat ∨ 16 ≤ links.toNat →
      exec (.scan ([id] ++ bytes2 start ++ [states, links])) s =
        .next { s with host := s.replied { kind := 0x08#8, id := id, status := .badValue, payload := [] } })

/-! ## Alias table and parameter store -/

/-- ALIAS_SET writes one entry and leaves the other seven and everything else as they were. A source or target link above 3 or channel
above 7 is refused with BAD_KEY; then an index above 7, a tone that is neither 0-5 nor ANY, a mode that is neither ALWAYS nor FALLBACK,
or a target equal to the source with BAD_VALUE (R132). -/
def Obligations.AliasSetWritesOneEntry : Prop :=
  (∀ (s : State) (id : Byte) (index : Fin 8) (e : AliasEntry), s.Takes 0x09#8 (aliasSetBody id index e) →
    (e.sourceLink, e.sourceChannel) ≠ (e.targetLink, e.targetChannel) →
    ∃ t, exec (.aliasSet (aliasSetBody id index e)) s = .next t
      ∧ (∀ j : Fin 8, t.aliases[j] = if j = index then some e else s.aliases[j])
      ∧ t.host = s.replied { kind := 0x09#8, id := id, status := .ok, payload := [byte index.val] }
      ∧ { t with aliases := s.aliases, host := s.host } = s)
  ∧ (∀ (s : State) (id index sourceLink sourceChannel tone targetLink targetChannel mode : Byte),
    let body := [id, index, sourceLink, sourceChannel, tone, targetLink, targetChannel, mode]
    let refused (status : Status) : Prop :=
      exec (.aliasSet body) s = .next { s with host := s.replied { kind := 0x09#8, id := id, status := status, payload := [] } }
    let ends : Prop := sourceLink.toNat ≤ 3 ∧ sourceChannel.toNat ≤ 7 ∧ targetLink.toNat ≤ 3 ∧ targetChannel.toNat ≤ 7
    s.Takes 0x09#8 body →
    (¬ends → refused .badKey)
    ∧ (ends →
      7 < index.toNat ∨ (5 < tone.toNat ∧ tone ≠ 0xFF#8) ∨ 1 < mode.toNat
        ∨ (sourceLink = targetLink ∧ sourceChannel = targetChannel) →
      refused .badValue))

/-- R133: ALIAS_CLEAR empties the entry at the index, empty or not, and leaves the others; ALIAS_READ returns the entry, as empty or
with its six fields, and changes nothing; an index above 7 is refused with BAD_VALUE by both. -/
def Obligations.AliasClearAndReadByIndex : Prop :=
  ∀ (s : State) (id index : Byte),
    (s.Takes 0x0A#8 [id, index] →
      (∀ i : Fin 8, i.val = index.toNat →
        ∃ t, exec (.aliasClear [id, index]) s = .next t ∧ (∀ j : Fin 8, t.aliases[j] = if j = i then none else s.aliases[j])
          ∧ t.host = s.replied { kind := 0x0A#8, id := id, status := .ok, payload := [index] }
          ∧ { t with aliases := s.aliases, host := s.host } = s)
      ∧ (7 < index.toNat →
        exec (.aliasClear [id, index]) s =
          .next { s with host := s.replied { kind := 0x0A#8, id := id, status := .badValue, payload := [] } }))
    ∧ (s.Takes 0x0B#8 [id, index] →
      (∀ i : Fin 8, i.val = index.toNat →
        exec (.aliasRead [id, index]) s =
          .next
            { s with
              host :=
                s.replied
                  { kind := 0x0B#8
                    id := id
                    status := .ok
                    payload :=
                      index ::
                        (match s.aliases[i] with
                        | none => 0x00#8 :: List.replicate 6 0xFF#8
                        | some e => 0x01#8 :: (aliasSetBody id i e).drop 2) } })
      ∧ (7 < index.toNat →
        exec (.aliasRead [id, index]) s =
          .next { s with host := s.replied { kind := 0x0B#8, id := id, status := .badValue, payload := [] } }))

/-- TONE_PLAN_SET with invalidate off writes one plan, LEVEL_SET one amplitude, and their READs report, each leaving everything else as it
was. A level above 3 and an amplitude of 0 are refused with BAD_VALUE, a tone above 5 by both tone-plan requests with BAD_KEY, and a
TONE_PLAN_SET whose phase init, phase step, point count, capture or invalidate setting is out of its range with BAD_VALUE. -/
def Obligations.TonePlansAndLevelsSetAndRead : Prop :=
  ∀ (s : State) (id : Byte),
    let reply (kind : Byte) (payload : List Byte) : HostPort :=
      s.replied { kind := kind, id := id, status := .ok, payload := payload }
    let refused (kind : Byte) (status : Status) : HostPort :=
      s.replied { kind := kind, id := id, status := status, payload := [] }
    (∀ (tone : Fin 6) (p : TonePlan), p.InRange → s.Takes 0x0C#8 (tonePlanBody id tone p false) →
      exec (.tonePlanSet (tonePlanBody id tone p false)) s =
        .next
          { s with
            store := { s.store with plans := s.store.plans.set tone p }
            host := reply 0x0C#8 [byte tone.val, 0x00#8, 0x00#8, 0x00#8, 0x00#8] })
    ∧ (∀ (tone count capture invalidate : Byte) (phaseInit phaseStep : Nat), phaseInit ≤ 65535 → phaseStep ≤ 65535 →
      let body := [id, tone] ++ bytes2 phaseInit ++ bytes2 phaseStep ++ [count, capture, invalidate]
      s.Takes 0x0C#8 body →
      (5 < tone.toNat → exec (.tonePlanSet body) s = .next { s with host := refused 0x0C#8 .badKey })
      ∧ (tone.toNat ≤ 5 →
        4095 < phaseInit ∨ phaseStep = 0 ∨ 4095 < phaseStep ∨ count.toNat < 2 ∨ 16 < count.toNat ∨ 1 < capture.toNat
          ∨ 1 < invalidate.toNat →
        exec (.tonePlanSet body) s = .next { s with host := refused 0x0C#8 .badValue }))
    ∧ (∀ tone : Byte, s.Takes 0x0D#8 [id, tone] →
      (∀ i : Fin 6, i.val = tone.toNat →
        exec (.tonePlanRead [id, tone]) s =
          .next
            { s with
              host :=
                reply 0x0D#8
                  (tone ::
                    (bytes2 s.store.plans[i].phaseInit ++ bytes2 s.store.plans[i].phaseStep
                      ++ [byte s.store.plans[i].pointCount, switchCode s.store.plans[i].capture])) })
      ∧ (5 < tone.toNat → exec (.tonePlanRead [id, tone]) s = .next { s with host := refused 0x0D#8 .badKey }))
    ∧ (∀ (level : Byte) (amplitude : Nat), amplitude ≤ 65535 → s.Takes 0x0E#8 ([id, level] ++ bytes2 amplitude) →
      (∀ i : Fin 4, i.val = level.toNat → 1 ≤ amplitude →
        exec (.levelSet ([id, level] ++ bytes2 amplitude)) s =
          .next
            { s with
              store := { s.store with levels := s.store.levels.set i amplitude }
              host := reply 0x0E#8 (level :: bytes2 amplitude) })
      ∧ (3 < level.toNat ∨ amplitude = 0 →
        exec (.levelSet ([id, level] ++ bytes2 amplitude)) s = .next { s with host := refused 0x0E#8 .badValue }))
    ∧ (∀ level : Byte, s.Takes 0x0F#8 [id, level] →
      (∀ i : Fin 4, i.val = level.toNat →
        exec (.levelRead [id, level]) s = .next { s with host := reply 0x0F#8 (level :: bytes2 s.store.levels[i]) })
      ∧ (3 < level.toNat → exec (.levelRead [id, level]) s = .next { s with host := refused 0x0F#8 .badValue }))

/-- CONFIG_SET of a parameter within its range, the three cadence bounds against the other two in force: the store holds the value, a
raised BASE_INTERVAL lifts lower intervals and a lowered INTERVAL_CAP lowers higher ones at once, nothing else changes. Any other id or
value is refused with BAD_VALUE. CONFIG_GET reports the value. -/
def Obligations.ConfigSetKeepsBounds : Prop :=
  ∀ (s : State) (id : Byte) (n value : Nat), s.IntervalsOk → n < 256 → value ≤ 65535 →
    (s.Takes 0x10#8 ([id, byte n] ++ bytes2 value) →
      (1 ≤ n → n ≤ 17 → (s.params.range n).1 ≤ value → value ≤ (s.params.range n).2 →
        ∃ t, exec (.configSet ([id, byte n] ++ bytes2 value)) s = .next t
          ∧ t.params.list = s.params.list.set (n - 1) value
          ∧ t.table =
              s.table.map (fun e =>
                (e.1,
                  { e.2 with
                    interval :=
                      if n = 2 then if s.params.baseInterval < value then max e.2.interval value else e.2.interval
                      else if n = 3 then if value < s.params.intervalCap then min e.2.interval value else e.2.interval
                      else e.2.interval }))
          ∧ t.host = s.replied { kind := 0x10#8, id := id, status := .ok, payload := byte n :: bytes2 value }
          ∧ { t with table := s.table, host := s.host, store := { t.store with params := s.params } } = s)
      ∧ (n = 0 ∨ 17 < n ∨ value < (s.params.range n).1 ∨ (s.params.range n).2 < value →
        exec (.configSet ([id, byte n] ++ bytes2 value)) s =
          .next { s with host := s.replied { kind := 0x10#8, id := id, status := .badValue, payload := [] } }))
    ∧ (s.Takes 0x11#8 [id, byte n] →
      (∀ v, 1 ≤ n → s.params.list[n - 1]? = some v →
        exec (.configGet [id, byte n]) s =
          .next { s with host := s.replied { kind := 0x11#8, id := id, status := .ok, payload := byte n :: bytes2 v } })
      ∧ (n = 0 ∨ 17 < n →
        exec (.configGet [id, byte n]) s =
          .next { s with host := s.replied { kind := 0x11#8, id := id, status := .badValue, payload := [] } }))

/-! ## Markings of a drift alert and of the invalidate option -/

/-- DRIFT_ALERT on an UP link and TONE_PLAN_SET with invalidate on. Each marks, in ascending slot order, the AUTO records it names that
are VALID, DUE or SUSPECT: interval BASE_INTERVAL, streak 0, VALID becomes DUE, then the standing's move. A marking pass changes in a
record nothing but interval, streak, state and standing, and no record outside its slots but in its standing. The plan is written before
the pass; the reply counts the records marked and those whose offer ended FAILED or HELD. -/
def Obligations.AlertsMarkServedRecords : Prop :=
  (∀ (s : State) (slot : Nat) (r : Record),
    ∃ u : State,
      Table.DiffersAt s.table u.table slot
        ((Table.get s.table slot).map fun x =>
          { x with interval := s.params.baseInterval, streak := 0, state := if x.state = .valid then .due else x.state })
      ∧ { u with table := s.table } = s ∧ s.markAlert slot r = u.mark .alert slot r)
  ∧ (∀ (s : State) (slots : List Nat), s.TableOk → slots.Nodup →
    ∀ (m : Nat) (r : Record), Table.get s.table m = some r →
      ∃ st, Table.get (s.markPass State.markAlert slots).1.table m =
        some
          (if m ∈ slots then
            { r with
              interval := s.params.baseInterval
              streak := 0
              state := if r.state = .valid then .due else r.state
              standing := st }
          else { r with standing := st }))
  ∧ (∀ (s : State) (l : LinkId) (channels tones : Byte), s.rstN = true → (s.link l).state = .up →
    exec (.driftAlert l channels tones) s =
      .next
        ((s.receivedOn l 0x15#8 [channels, tones]).markPass State.markAlert
          ((s.table.filter fun e =>
            e.2.key.link == l && channels.getLsbD e.2.key.channel.val && tones.getLsbD e.2.key.tone.val && e.2.policy == .auto
              && (e.2.state == .valid || e.2.state == .due || e.2.state == .suspect)).map (·.1))).1)
  ∧ (∀ (s : State) (id : Byte) (tone : Fin 6) (p : TonePlan), p.InRange → s.Takes 0x0C#8 (tonePlanBody id tone p true) →
    let written : State := { s with store := { s.store with plans := s.store.plans.set tone p } }
    let pass :=
      written.markPass State.markAlert
        ((s.table.filter fun e =>
          e.2.key.tone == tone && e.2.policy == .auto
            && (e.2.state == .valid || e.2.state == .due || e.2.state == .suspect)).map (·.1))
    exec (.tonePlanSet (tonePlanBody id tone p true)) s =
      .next
        { pass.1 with
          host :=
            s.replied
              { kind := 0x0C#8
                id := id
                status := .ok
                payload :=
                  byte tone.val ::
                    (bytes2 pass.2.length ++ bytes2 (pass.2.count (some .failed) + pass.2.count (some .held))) } })

/-! ## Link control and resets -/

/-- LINK_CONTROL DISABLE. An OFF link stays as it is. Otherwise a sweep on the link ends ABORTED and its record is held WAITING with its
cause at dispatch; the link's entries leave the queue and their records are held WAITING; the link awaits nothing, its tags are
forgotten, its HELLO timer stops, only a frame in transmission (log 7), of the message at the head
of its outbound queue, stays there; it is OFF; LINK_STATE with reason
HOST joins ahead of the reply. Partner facts, counter and counts are kept, and so are the other links. -/
def Obligations.DisableTakesLinkOff : Prop :=
  ∀ (s : State) (id : Byte) (l : LinkId), s.Takes 0x12#8 [id, byte l.val, 0x00#8] →
    let r : Reply := { kind := 0x12#8, id := id, status := .ok, payload := [byte l.val, 0x00#8] }
    let store : Store := { s.store with enabled := s.store.enabled.set l false }
    ((s.link l).state = .off →
      exec (.linkControlDisable id (byte l.val)) s = .next { s with store := store, host := s.replied r })
    ∧ ((s.link l).state ≠ .off → s.RefreshOk → s.SweepsOk →
      ∃ t, exec (.linkControlDisable id (byte l.val)) s = .next t ∧ t.store = store
        ∧ (t.link l).state = .off ∧ (t.link l).awaited = none ∧ (t.link l).tags = [] ∧ (t.link l).hello = none
        ∧ (∀ m ∈ (t.link l).out, m.orphan = true) ∧ (t.link l).out.length ≤ ((s.link l).out.filter (·.orphan)).length + 1
        ∧ OnlyHeadFinishes (s.link l).out (t.link l).out ∧ (t.link l).rx = []
        ∧ { t.link l with
            state := (s.link l).state, awaited := (s.link l).awaited, tags := (s.link l).tags, hello := (s.link l).hello,
            out := (s.link l).out, rx := (s.link l).rx } = s.link l
        ∧ (∀ m, m ≠ l → t.link m = s.link m)
        ∧ t.queue =
            { prio := s.queue.prio.filter fun q => q.key.link != l, back := s.queue.back.filter fun q => q.key.link != l }
        ∧ (∀ (slot : Nat) (x : Record), Table.get s.table slot = some x →
            Table.get t.table slot =
              some
                (match x.standing with
                | .queued c => if x.key.link = l then { x with standing := .waiting c } else x
                | .sweeping e =>
                  match s.sweep e with
                  | some w => if x.key.link = l then { x with standing := .waiting w.cause } else x
                  | none => x
                | _ => x))
        ∧ (∀ e, t.sweep e = if s.sweepsOn e l then none else s.sweep e)
        ∧ t.host =
            s.answered s.params.noticeMask
              (([EngineId.se0, .se1].filterMap fun e =>
                  match s.sweep e with
                  | some w => if w.key.link = l then some (.sweepEnd e w.key .aborted w.level w.declines false) else none
                  | none => none)
                ++ [.linkState l .off .host 0x00#8 0x00#8 0x00#8 0 0])
              r
        ∧ { t with
            table := s.table, queue := s.queue, se0 := s.se0, se1 := s.se1, links := s.links, host := s.host, store := s.store,
            considerDue := s.considerDue, freeCount := s.freeCount } = s)

/-- LINK_CONTROL ENABLE. An OFF link goes DOWN: its receiver hunts, a HELLO joins, the HELLO timer starts, no refusal is reported yet, and
LINK_STATE with reason HOST joins ahead of the reply. A link that is DOWN or UP stays as it is, and the reply carries its state. -/
def Obligations.EnableTakesLinkDown : Prop :=
  ∀ (s : State) (id : Byte) (l : LinkId), s.Takes 0x12#8 [id, byte l.val, 0x01#8] →
    let store : Store := { s.store with enabled := s.store.enabled.set l true }
    ((s.link l).state = .off →
      exec (.linkControlEnable id (byte l.val)) s =
        .next
          { s.withLink l
              { s.link l with
                state := .down
                out := (s.link l).out ++ [{ body := .hello l, orphan := false }]
                hello := some 10
                refusalReported := false
                rx := [] } with
            store := store
            host :=
              s.answered s.params.noticeMask [.linkState l .down .host 0x00#8 0x00#8 0x00#8 0 0]
                { kind := 0x12#8, id := id, status := .ok, payload := [byte l.val, 0x01#8] } })
    ∧ ((s.link l).state ≠ .off →
      exec (.linkControlEnable id (byte l.val)) s =
        .next
          { s with
            store := store
            host :=
              s.replied { kind := 0x12#8, id := id, status := .ok, payload := [byte l.val, (s.link l).state.code] } })

/-- SOFT_RESET TABLE: engines IDLE without an outcome, no link awaits a number or holds a waiting CAL_REQUEST, table, pool and queue
cleared; epoch counter, Epoch Timer, alias table, parameter store, link states, partner facts, counts, tags, CORRECTIONs and HELLOs are
kept; no notice is emitted and the reply carries the scope. -/
def Obligations.SoftResetTableClearsRecords : Prop :=
  ∀ (s : State) (id : Byte), s.Takes 0x14#8 [id, 0x00#8] →
    ∃ t, exec (.softResetTable id) s = .next t
      ∧ t.table = [] ∧ t.poolFree = 2048 ∧ t.queue = { prio := [], back := [] } ∧ t.se0 = none ∧ t.se1 = none
      ∧ (∀ l, (t.link l).awaited = none ∧ (∀ m ∈ (t.link l).out, m.waitingCal = false)
          ∧ OnlyHeadFinishes (s.link l).out (t.link l).out
          ∧ { t.link l with awaited := (s.link l).awaited, out := (s.link l).out } = s.link l
          ∧ ((t.link l).out.filter fun m => match m.body with | .calRequest _ => false | _ => true) =
              (s.link l).out.filter fun m => match m.body with | .calRequest _ => false | _ => true)
      ∧ t.epochCount = s.epochCount ∧ t.epoch = s.epoch ∧ t.aliases = s.aliases ∧ t.store = s.store ∧ t.rstN = s.rstN
      ∧ t.considerDue = false
      ∧ t.host = s.replied { kind := 0x14#8, id := id, status := .ok, payload := [0x00#8] }

/-- SOFT_RESET FULL: as TABLE, and the epoch counter is 0, parameter store and alias table take their defaults, a new epoch of 1000 ms
starts, every link is DOWN afresh with its sequence counter kept, a DOWN link's waiting HELLO removed before its new one joins. A
LINK_STATE RESET joins, under the default mask, for each link that was UP (with the counts as they stood) or OFF; that they join in
ascending link order is the model's choice (log 15). -/
def Obligations.SoftResetFullRestartsPart : Prop :=
  ∀ (s : State) (id : Byte), s.Takes 0x14#8 [id, 0x01#8] →
    ∃ t, exec (.softResetFull id) s = .next t
      ∧ t.table = [] ∧ t.poolFree = 2048 ∧ t.queue = { prio := [], back := [] } ∧ t.se0 = none ∧ t.se1 = none
      ∧ t.epochCount = 0 ∧ t.epoch = { length := 1000, left := 1000 } ∧ t.store = Store.defaults
      ∧ (∀ i : Fin 8, t.aliases[i] = none) ∧ t.rstN = s.rstN ∧ t.considerDue = false
      ∧ (∀ l, (t.link l).state = .down ∧ (t.link l).partner = none ∧ (t.link l).awaited = none
          ∧ (t.link l).timeouts = 0 ∧ (t.link l).faults = 0 ∧ (t.link l).hello = some 10
          ∧ (t.link l).refusalReported = false ∧ (t.link l).sequence = (s.link l).sequence
          ∧ (t.link l).out.getLast? = some { body := .hello l, orphan := false }
          ∧ (∀ m ∈ (t.link l).out, m.waitingCal = false) ∧ OnlyHeadFinishes (s.link l).out (t.link l).out
          ∧ ((t.link l).out.filter (·.waitingHello)) =
              (if (s.link l).state = .down then [] else (s.link l).out.filter (·.waitingHello))
                ++ [{ body := .hello l, orphan := false }]
          ∧ ((s.link l).state = .up → (t.link l).tags = [] ∧ ∀ m ∈ (t.link l).out, m.waitingCorrection = false))
      ∧ t.host =
          s.answered 107
            (([0, 1, 2, 3] : List LinkId).filterMap fun l =>
              match (s.link l).state with
              | .up => some (.linkState l .down .reset 0x00#8 0x00#8 0x00#8 (s.link l).faults (s.link l).timeouts)
              | .off => some (.linkState l .down .reset 0x00#8 0x00#8 0x00#8 0 0)
              | .down => none)
            { kind := 0x14#8, id := id, status := .ok, payload := [0x01#8] }

/-! ## Time -/

/-- EPOCH_EXPIRY: the counter moves on, saturating; the next epoch takes the EPOCH_MS in force; every record ages and moves as the tables
of R52, R53 and R55 say, a record that becomes STALE giving one STALE_ENTERED in slot order; then places are offered to the records that
wait, those of priority cause first, each pass in slot order over the records that waited before the first offer. -/
def Obligations.EpochExpiryAgesThenOffers : Prop :=
  ∀ s : State, s.rstN = true → ∃ u : State,
    u.epochCount = (if s.epochCount < 0xFFFFFFFF then s.epochCount + 1 else s.epochCount)
    ∧ u.epoch = { length := s.params.epochMs, left := s.params.epochMs }
    ∧ u.table = s.table.map (fun e => (e.1, e.2.afterExpiry s.params.staleLimit))
    ∧ u.host =
        s.host.emitted s.params.noticeMask
          ((s.table.filter fun e =>
              e.2.state != .stale && (e.2.afterExpiry s.params.staleLimit).state == .stale).map fun e =>
            .staleEntered e.2.key e.1 e.2.state (e.2.afterExpiry s.params.staleLimit).age)
    ∧ { u with epochCount := s.epochCount, epoch := s.epoch, table := s.table, host := s.host } = s
    ∧ exec .epochExpiry s =
        .next
          ((u.offerPass
              ((u.table.filter fun e => e.2.standing == .waiting .first || e.2.standing == .waiting .requested).map (·.1))).offerPass
            ((u.table.filter fun e => e.2.standing == .waiting .scheduled || e.2.standing == .waiting .retry).map (·.1)))

/-! ## Sweeps -/

/-- DISPATCH serves SE0, then SE1 against what SE0's dispatch left. An idle engine takes the first entry in queue order whose link is UP
and carries no sweep of the other engine: the entry leaves, the record is SWEEPING, the context is filled, with the tone plan as its
snapshot. An engine that sweeps, or finds no such entry, stays as it is. A consideration repeated at once changes nothing. -/
def Obligations.DispatchServesFirstEligible : Prop :=
  (∀ (s : State) (e : EngineId) (before after : List QEntry) (q : QEntry),
    s.sweep e = none → s.queue.prio ++ s.queue.back = before ++ q :: after →
    (s.link q.key.link).state = .up → (∀ w, s.sweep (otherEngine e) = some w → w.key.link ≠ q.key.link) →
    (∀ x ∈ before, (s.link x.key.link).state ≠ .up ∨ ∃ w, s.sweep (otherEngine e) = some w ∧ w.key.link = x.key.link) →
    s.offerDispatch e =
      ((s.withQueue
          { prio := s.queue.prio.filter fun x => x.slot != q.slot
            back := s.queue.back.filter fun x => x.slot != q.slot }).setStanding q.slot (.sweeping e)).withSweep e
        (some
          { mode := .measure, slot := q.slot, key := q.key, cause := q.cause, plan := s.store.plans[q.key.tone], level := 0,
            restarts := 0, runAmplitude := none, step := .zero, zero := none, points := [], retries := 0, declines := 0,
            awaited := none, timer := .stopped }))
  ∧ (∀ (s : State) (e : EngineId),
    (s.sweep e ≠ none
      ∨ ∀ x ∈ s.queue.prio ++ s.queue.back,
          (s.link x.key.link).state ≠ .up ∨ ∃ w, s.sweep (otherEngine e) = some w ∧ w.key.link = x.key.link) →
    s.offerDispatch e = s)
  ∧ (∀ s : State, s.rstN = true →
    exec .dispatch s = .next { (s.offerDispatch .se0).offerDispatch .se1 with considerDue := false }
      ∧ ∀ t, exec .dispatch s = .next t → exec .dispatch t = .next t)

/-- R90: a request takes the link's number, link and engine both await it, the counter moves on by 1 modulo 256, and one CAL_REQUEST with
the record's channel, tone and gain joins the outbound queue: ZERO, or POINT with the phase (phase init + k × phase step) mod 4096 of the
snapshot (R84) and the run amplitude. Everything else is unchanged. -/
def Obligations.RequestTakesNextNumber : Prop :=
  ∀ (s : State) (e : EngineId) (w : Sweep),
    let lk := s.link w.key.link
    s.makeRequest e w =
      (s.withLink w.key.link
        { lk with
          sequence := lk.sequence + 1
          awaited := some lk.sequence
          out :=
            lk.out
              ++ [{ body :=
                      .calRequest
                        { sequence := lk.sequence
                          channel := w.key.channel
                          tone := w.key.tone
                          gain := w.key.gain
                          injection :=
                            match w.step with
                            | .zero => none
                            | .point k => some ((w.plan.phaseInit + k * w.plan.phaseStep) % 4096, w.runAmplitude.getD 0) }
                    orphan := false }] }).withSweep e
        (some { w with mode := .measure, awaited := some lk.sequence, timer := .stopped })

/-- A sweep that ends with a counted failure: the engine is IDLE, its link awaits no number, the fail count rises by 1. Below FAIL_LIMIT
VALID and DUE become SUSPECT and the standing is RETRY(RETRY_DELAY), or with RETRY_DELAY 0 WAITING(RETRY) offered at once; at FAIL_LIMIT
the record is FAULTED and IDLE, with RECORD_FAULTED ahead of SWEEP_END. Values, generation, age, interval, streak and profile stay. -/
def Obligations.CountedFailureAtRecord : Prop :=
  ∀ (s : State) (e : EngineId) (w : Sweep) (r : Record) (reason : FailReason), s.sweep e = some w →
    Table.get s.table w.slot = some r →
    let t := s.endFailed e w reason
    let ended : Notice := .sweepEnd e w.key (.failed reason) w.level w.declines false
    let below : RecState := if r.state = .valid ∨ r.state = .due then .suspect else r.state
    t.sweep e = none ∧ t.sweep (otherEngine e) = s.sweep (otherEngine e)
    ∧ (∀ l, t.link l = if l = w.key.link then { s.link l with awaited := none } else s.link l)
    ∧ t.considerDue = true
    ∧ { t with
        table := s.table, queue := s.queue, se0 := s.se0, se1 := s.se1, links := s.links, host := s.host,
        considerDue := s.considerDue } = s
    ∧ (s.params.failLimit ≤ r.failCount + 1 →
        Table.DiffersAt s.table t.table w.slot (some { r with failCount := r.failCount + 1, state := .faulted, standing := .idle })
        ∧ t.queue = s.queue
        ∧ t.host = s.host.emitted s.params.noticeMask [.recordFaulted r.key w.slot reason, ended])
    ∧ (r.failCount + 1 < s.params.failLimit → t.host = s.host.emitted s.params.noticeMask [ended]
        ∧ (s.params.retryDelay ≠ 0 →
            Table.DiffersAt s.table t.table w.slot
              (some { r with failCount := r.failCount + 1, state := below, standing := .retry s.params.retryDelay })
            ∧ t.queue = s.queue)
        ∧ (s.params.retryDelay = 0 →
            ∃ u : State,
              Table.DiffersAt s.table u.table w.slot
                (some { r with failCount := r.failCount + 1, state := below, standing := .waiting .retry })
              ∧ { u with table := s.table } = s
              ∧ t.table = (u.offer w.slot r.key .retry).1.table ∧ t.queue = (u.offer w.slot r.key .retry).1.queue))

/-- REQUEST_TIMER_EXPIRY: the link's timeout count rises and nothing is awaited. At the third the link goes DOWN with SILENT; before it, a
request not yet resent is made again with retry count 1, and a resent one ends the sweep FAILED(TIMEOUT).
RETRY_COUNTDOWN_EXPIRY: a record in the last epoch of its RETRY takes WAITING(RETRY), any other record
and everything else stays; that this part of an expiry has a row of its own, without the offer, is the model's reading (log 10).
WAIT_TIMER_EXPIRY: the declined request is made again with retry count 0. HELLO_TIMER_EXPIRY on a DOWN link: a HELLO joins when none is
in the queue, and the timer starts again. -/
def Obligations.TimersOfOneOwnerExpire : Prop :=
  (∀ (s : State) (e : EngineId) (w : Sweep) (ms : Nat), s.rstN = true → s.sweep e = some w → w.timer = .request ms →
    let lk := s.link w.key.link
    let stopped : Sweep := { w with awaited := none, timer := .stopped }
    let u := (s.withLink w.key.link { lk with timeouts := lk.timeouts + 1, awaited := none }).withSweep e (some stopped)
    exec (.requestTimerExpiry e) s =
      .next
        (if 3 ≤ lk.timeouts + 1 then u.leaveUp w.key.link .silent
        else if w.retries = 0 then u.makeRequest e { stopped with retries := 1 }
        else u.endFailed e stopped .timeout))
  ∧ (∀ (s : State) (slot : Nat), s.rstN = true →
    ∃ t, exec (.retryCountdownExpiry slot) s = .next t ∧ { t with table := s.table } = s
      ∧ Table.DiffersAt s.table t.table slot
          ((Table.get s.table slot).map fun r =>
            if r.standing = .retry 1 ∨ r.standing = .retry 0 then { r with standing := .waiting .retry } else r))
  ∧ (∀ (s : State) (e : EngineId) (w : Sweep) (ms : Nat), s.rstN = true → s.sweep e = some w → w.timer = .wait ms →
    exec (.waitTimerExpiry e) s = .next (s.makeRequest e { w with retries := 0 }))
  ∧ (∀ (s : State) (l : LinkId) (ms : Nat), s.rstN = true → (s.link l).state = .down → (s.link l).hello = some ms →
    exec (.helloTimerExpiry l) s =
      .next
        (s.withLink l
          { s.link l with
            hello := some 10
            out :=
              if (s.link l).out.any OutMsg.helloOf then (s.link l).out
              else (s.link l).out ++ [{ body := .hello l, orphan := false }] }))

/-- CAL_RESULT on an UP link. An answer under a number the link does not await is discarded. An accepted one clears the number and the
timeout count and cancels the timer; then, for the ZERO step: GOOD keeps the offsets and requests point 0 with the amplitude of the level,
SATURATED and INVALID end the sweep; for a point: GOOD appends it and requests the next, or at the last point computes; SATURATED restarts
the run one level on, or at the fourth run ends the sweep; INVALID, any other condition and a phase of a GOOD point above 4095 end it
FAILED(INVALID). That a SATURATED result is SATURATED whatever its second number, also at 1000h and above, is the model's reading of
R94 against the words of R202 (log 14). -/
def Obligations.CalResultDrivesSweep : Prop :=
  ∀ (s : State) (l : LinkId) (number condition : Byte) (first second : Word),
    let frame := [number, condition] ++ bytes2 first.toNat ++ bytes2 second.toNat
    (s.rstN = true → (s.link l).state = .up → (s.link l).awaited ≠ some number →
      exec (.calResult l number condition first second) s = .next (s.receivedOn l 0x13#8 frame))
    ∧ (∀ (e : EngineId) (w : Sweep), s.Awaits l number e w →
      let got := s.receivedOn l 0x13#8 frame
      let u := (got.withLink l { got.link l with awaited := none, timeouts := 0 }).withSweep e
        (some { w with awaited := none, timer := .stopped })
      let x : Sweep := { w with awaited := none, timer := .stopped }
      let good := condition = 0x00#8
      let saturated := condition = 0x01#8
      let result (t : State) : Prop := exec (.calResult l number condition first second) s = .next t
      (w.step = .zero →
        (good →
          result
            (u.makeRequest e
              { x with
                zero := some (first.toInt, second.toInt)
                step := .point 0
                runAmplitude := some s.store.levels[w.level]
                retries := 0 }))
        ∧ (saturated → result (u.endFailed e x .saturated))
        ∧ (¬good → ¬saturated → result (u.endFailed e x .invalid)))
      ∧ (∀ k, w.step = .point k →
        let y : Sweep := { x with points := w.points ++ [{ magnitude := first.toNat, phase := second.toNat }] }
        (good → second.toNat < 4096 → k + 1 < w.plan.pointCount →
          result (u.makeRequest e { y with step := .point (k + 1), retries := 0 }))
        ∧ (good → second.toNat < 4096 → w.plan.pointCount ≤ k + 1 →
          (∀ v, y.compute s.params.spreadLimit = .ok v → result (u.endCommitted e y v))
          ∧ (∀ reason, y.compute s.params.spreadLimit = .error reason → result (u.endFailed e y reason)))
        ∧ (good → 4096 ≤ second.toNat → result (u.endFailed e x .invalid))
        ∧ (saturated → ∀ (next : Fin 4), w.level.val + 1 = next.val →
          result
            (u.makeRequest e
              { x with
                level := next
                restarts := w.restarts + 1
                points := []
                step := .point 0
                runAmplitude := some s.store.levels[next]
                retries := 0 }))
        ∧ (saturated → w.level.val = 3 → result (u.endFailed e x .saturated))
        ∧ (¬good → ¬saturated → result (u.endFailed e x .invalid))))

/-- The computation over the collected points. Error k is the injected phase less the measured one, brought into -2048..2047. A spread,
the largest error less the smallest, above SPREAD_LIMIT fails SPREAD; then a mean magnitude of 0 fails INVALID; otherwise the offsets
are the zero offsets, the trim is the mean error truncated toward zero (R103), and the scale is A × 32768 / M truncated and limited to
1..65535. -/
def Obligations.ComputationGivesValues : Prop :=
  ∀ (w : Sweep) (spreadLimit : Nat) (offsetI offsetQ : Int) (amplitude : Nat) (errors : List Int),
    w.zero = some (offsetI, offsetQ) → w.runAmplitude = some amplitude → w.points ≠ [] →
    (∀ p ∈ w.points, p.phase < 4096) → errors.length = w.points.length →
    (∀ (k : Nat) (p : Point) (e : Int), w.points[k]? = some p → errors[k]? = some e →
      -2048 ≤ e ∧ e ≤ 2047 ∧ (4096 : Int) ∣ ((w.plan.phaseInit + k * w.plan.phaseStep : Nat) : Int) - (p.phase : Int) - e) →
    let mean := (w.points.map Point.magnitude).sum / w.points.length
    ((∃ a ∈ errors, ∃ b ∈ errors, (spreadLimit : Int) < a - b) → w.compute spreadLimit = .error .spread)
    ∧ ((∀ a ∈ errors, ∀ b ∈ errors, a - b ≤ (spreadLimit : Int)) →
      (mean = 0 → w.compute spreadLimit = .error .invalid)
      ∧ (mean ≠ 0 →
        w.compute spreadLimit =
          .ok
            { offsetI := offsetI
              offsetQ := offsetQ
              scale := if amplitude * 32768 / mean = 0 then 1 else min 65535 (amplitude * 32768 / mean)
              trim := Int.tdiv errors.sum (w.points.length : Int) }
        ∧ -2048 ≤ Int.tdiv errors.sum (w.points.length : Int) ∧ Int.tdiv errors.sum (w.points.length : Int) ≤ 2047
        ∧ (w.points.length ≤ 16 → -32768 ≤ errors.sum ∧ errors.sum ≤ 32752)))

/-- A COMMITTED outcome at the record: the agreement test sets streak and interval; the values, origin SWEEP, generation moved on, age and
fail count 0, VALID, IDLE; the old profile is freed and a new one stored exactly when capture was on and the pool then has room (R39);
the engine is IDLE, its link awaits no number, and SWEEP_END says whether a profile was stored. -/
def Obligations.CommitWritesRecord : Prop :=
  ∀ (s : State) (e : EngineId) (w : Sweep) (v : Values) (r : Record), s.sweep e = some w → Table.get s.table w.slot = some r →
    let t := s.endCommitted e w v
    let free := s.poolFree + r.profilePoints
    let stored := w.plan.capture = true ∧ w.points.length ≤ free
    Table.DiffersAt s.table t.table w.slot
      (some
        { r with
          held := some { values := v, origin := .sweep }
          generation := r.generation + 1
          age := 0
          failCount := 0
          state := .valid
          standing := .idle
          streak := streakAfter (agrees s.params r.held v) r.streak
          interval := intervalAfter s.params (agrees s.params r.held v) r.streak r.interval
          profile := if stored then some { level := w.level, points := w.points } else none })
    ∧ t.poolFree = (if stored then free - w.points.length else free)
    ∧ t.sweep e = none ∧ t.sweep (otherEngine e) = s.sweep (otherEngine e)
    ∧ (∀ l, t.link l = if l = w.key.link then { s.link l with awaited := none } else s.link l)
    ∧ t.considerDue = true
    ∧ t.host = s.host.emitted s.params.noticeMask [.sweepEnd e w.key .committed w.level w.declines (decide stored)]
    ∧ { t with
        table := s.table, poolFree := s.poolFree, se0 := s.se0, se1 := s.se1, links := s.links, host := s.host,
        considerDue := s.considerDue } = s

/-- The agreement test (R57), and the streak and interval it sets (R58). -/
def Obligations.AgreementSetsStreakAndInterval : Prop :=
  ∀ (p : Params) (old : Option Holding) (new : Values) (streak interval : Nat), streak ≤ 15 →
    (∀ h, old = some h → -2048 ≤ h.values.trim ∧ h.values.trim ≤ 2047) → -2048 ≤ new.trim → new.trim ≤ 2047 →
    let agree := agrees p old new
    (agree = true ↔
      ∃ h, old = some h ∧ h.origin = .sweep
        ∧ |new.offsetI - h.values.offsetI| ≤ p.tolOffset ∧ |new.offsetQ - h.values.offsetQ| ≤ p.tolOffset
        ∧ |(new.scale : Int) - (h.values.scale : Int)| ≤ p.tolScale
        ∧ ∃ d : Int, -2048 ≤ d ∧ d ≤ 2047 ∧ (4096 : Int) ∣ new.trim - h.values.trim - d ∧ |d| ≤ p.tolPhase)
    ∧ streakAfter agree streak = (if agree then min 15 (streak + 1) else 0)
    ∧ intervalAfter p agree streak interval =
        (if agree then
          if p.streakMin ≤ streak + 1 then min p.intervalCap (interval * p.growth) else interval
        else p.baseInterval)

/-- CAL_DECLINED on an UP link. Under a number not awaited it is discarded. Accepted, it clears the number and the timeout count; with the
decline count at or above DECLINE_LIMIT the sweep ends FAILED(DECLINED), otherwise the count rises by 1 and the engine enters WAIT with the
DECLINE_WAIT_MS in force.
PARTNER_CHECK: a key whose channel is below the channel count and whose tone is in the tone mask passes, and the request is made; any
other ends the sweep FAILED(INVALID). -/
def Obligations.DeclinedOrUnfitSweepWaitsOrFails : Prop :=
  (∀ (s : State) (l : LinkId) (number : Byte),
    (s.rstN = true → (s.link l).state = .up → (s.link l).awaited ≠ some number →
      exec (.calDeclined l number) s = .next (s.receivedOn l 0x14#8 [number]))
    ∧ (∀ (e : EngineId) (w : Sweep), s.Awaits l number e w →
      let got := s.receivedOn l 0x14#8 [number]
      let cleared := got.withLink l { got.link l with awaited := none, timeouts := 0 }
      let x : Sweep := { w with awaited := none, timer := .stopped }
      (w.declines < s.params.declineLimit →
        exec (.calDeclined l number) s =
          .next
            (cleared.withSweep e
              (some { x with declines := w.declines + 1, mode := .wait, timer := .wait s.params.declineWaitMs })))
      ∧ (s.params.declineLimit ≤ w.declines →
        exec (.calDeclined l number) s = .next ((cleared.withSweep e (some x)).endFailed e x .declined))))
  ∧ (∀ (s : State) (e : EngineId) (w : Sweep) (p : Partner), s.rstN = true → s.sweep e = some w → w.mode = .measure →
    w.awaited = none → (s.link w.key.link).partner = some p →
    exec (.partnerCheck e) s =
      .next
        (if w.key.channel.val < p.channels.toNat ∧ p.toneMask.getLsbD w.key.tone.val = true then s.makeRequest e w
        else s.endFailed e w .invalid))

/-! ## Probe links -/

/-- OUTBOUND_FRAME_SENT: the head message leaves with its last character. A CORRECTION's tag leaves the outstanding set; a CAL_REQUEST that
link and engine await starts its timer with the CAL_TIMEOUT_MS in force; a HELLO, a message that only finishes on the wire (R143) and a
CAL_REQUEST that nothing awaits have no further effect. A waiting CAL_REQUEST that nothing awaits arises only where its answer was
accepted before it left: that it then stays in the queue is the model's reading (log 8). -/
def Obligations.SentFrameLeavesQueue : Prop :=
  ∀ (s : State) (l : LinkId) (m : OutMsg) (rest : List OutMsg), s.rstN = true → (s.link l).out = m :: rest →
    let lk : Link := { s.link l with out := rest, txLast := m.body.frame }
    (m.orphan = true ∨ m.helloOf = true → exec (.outboundFrameSent l) s = .next (s.withLink l lk))
    ∧ (∀ c, m.orphan = false → m.body = .correction c →
      exec (.outboundFrameSent l) s = .next (s.withLink l { lk with tags := lk.tags.filter fun t => t != c.tag }))
    ∧ (∀ q, m.orphan = false → m.body = .calRequest q → s.SweepsOk →
      (∀ e w, s.sweep e = some w → w.key.link = l → w.awaited = some q.sequence →
        exec (.outboundFrameSent l) s =
          .next ((s.withLink l lk).withSweep e (some { w with timer := .request s.params.calTimeoutMs })))
      ∧ ((s.link l).awaited ≠ some q.sequence → exec (.outboundFrameSent l) s = .next (s.withLink l lk)))

/-- FRAME_CHECK_FAILURE and INCOMPLETE_FRAME change nothing but the frame in progress of a link that is DOWN or UP, and nothing at all on an
OFF link: no count, no notice. After a frame whose check byte is wrong, or whose length is above 40, hunting resumes at the character after
its sync; after a missing stop bit or a gap, with the next character. That the characters after the failed sync are held, and not judged
again within the command, is the model's reading (log 16). -/
def Obligations.DamagedFramesOnlyResetReceiver : Prop :=
  ∀ (s : State) (l : LinkId), s.rstN = true →
    ((s.link l).state = .off →
      exec (.incompleteFrame l) s = .next s ∧ ∀ chars stop, exec (.frameCheckFailure l chars stop) s = .next s)
    ∧ ((s.link l).state ≠ .off →
      exec (.incompleteFrame l) s = .next (s.withLink l { s.link l with rx := [] })
      ∧ (∀ chars, exec (.frameCheckFailure l chars true) s = .next (s.withLink l { s.link l with rx := [] }))
      ∧ (∀ (kind length check : Byte) (body : List Byte), (s.link l).rx = [] → length.toNat ≤ 40 → body.length = length.toNat →
        check ≠ crc8 (kind :: length :: body) →
        exec (.frameCheckFailure l (0xD5#8 :: kind :: length :: (body ++ [check])) false) s =
          .next
            (s.withLink l
              { s.link l with rx := (kind :: length :: (body ++ [check])).dropWhile fun b => b != 0xD5#8 }))
      ∧ (∀ (kind length : Byte), (s.link l).rx = [] → 40 < length.toNat →
        exec (.frameCheckFailure l [0xD5#8, kind, length] false) s =
          .next (s.withLink l { s.link l with rx := [kind, length].dropWhile fun b => b != 0xD5#8 })))

/-- HELLO_ACK on a DOWN link. A valid one (length 3, level 1, 1 to 8 channels, a tone mask within the six tones and not empty) takes the
link UP with its facts, counts 0 and the HELLO timer stopped, removes a waiting HELLO, emits LINK_STATE TRAINED and makes a
consideration of dispatch due; the sequence counter is kept. Any other is refused: BAD_PARTNER is emitted once in a DOWN period with the
fields that the body gave, 00h for a field that a shorter body does not give. That the fields of a body of another length are its first
three bytes is the model's choice (log 13), and so is that the item 'partner refusal reported' becomes yes also when NOTICE_MASK keeps
the notice in (log 21). On an UP link a HELLO_ACK is a protocol fault; an OFF link does not receive it. -/
def Obligations.HelloAckTrainsOrIsRefused : Prop :=
  ∀ (s : State) (l : LinkId) (body : List Byte), s.rstN = true →
    let u := s.receivedOn l 0x11#8 body
    let valid : Prop :=
      body.length = 3 ∧ body.getD 0 0 = 0x01#8 ∧ 1 ≤ (body.getD 1 0).toNat ∧ (body.getD 1 0).toNat ≤ 8
        ∧ 1 ≤ (body.getD 2 0).toNat ∧ (body.getD 2 0).toNat < 64
    ((s.link l).state = .down → valid →
      ∃ t, exec (.helloAck l body) s = .next t ∧ (t.link l).state = .up
        ∧ (t.link l).partner = some { level := 0x01#8, channels := body.getD 1 0, toneMask := body.getD 2 0 }
        ∧ (t.link l).faults = 0 ∧ (t.link l).timeouts = 0 ∧ (t.link l).hello = none
        ∧ (∀ m ∈ (t.link l).out, m.helloOf = true → m.orphan = true) ∧ OnlyHeadFinishes (s.link l).out (t.link l).out
        ∧ { t.link l with
            state := (s.link l).state, partner := (s.link l).partner, faults := (s.link l).faults,
            timeouts := (s.link l).timeouts, hello := (s.link l).hello, out := (s.link l).out, rx := (s.link l).rx } = s.link l
        ∧ (∀ m, m ≠ l → t.link m = s.link m) ∧ t.considerDue = true
        ∧ t.host =
            s.host.emitted s.params.noticeMask [.linkState l .up .trained 0x01#8 (body.getD 1 0) (body.getD 2 0) 0 0]
        ∧ { t with links := s.links, host := s.host, considerDue := s.considerDue, freeCount := s.freeCount } = s)
    ∧ ((s.link l).state = .down → ¬valid →
      exec (.helloAck l body) s =
        .next
          (if (s.link l).refusalReported then u
          else
            (u.withLink l { u.link l with refusalReported := true }).withHost
              (s.host.emitted s.params.noticeMask
                [.linkState l .down .badPartner (body.getD 0 0) (body.getD 1 0) (body.getD 2 0) 0 0])))
    ∧ ((s.link l).state = .up → exec (.helloAck l body) s = .next (u.protocolFault l))
    ∧ ((s.link l).state = .off → exec (.helloAck l body) s = .next s)

/-- LOOKUP of a tag in 0-3 that is not outstanding, answered without creating: the tag becomes outstanding and one CORRECTION joins the
link's outbound queue. A key out of range or that the partner facts exclude is answered BAD_KEY; under an ALWAYS entry the target's record
answers, ALIASED, or MISS with ALIASED; under a FALLBACK entry the own record answers while it is served with values, then the target's,
ALIASED, while it is, and otherwise as without an entry: the own record, or MISS where the link's AUTOCREATE_MASK bit is clear. The
record that answers is stamped with the epoch counter, and nothing else of it changes; values come only from VALID, DUE and SUSPECT. -/
def Obligations.LookupAnsweredFromTable : Prop :=
  ∀ (s : State) (l : LinkId) (tag : Fin 4) (channel tone gain : Byte) (p : Partner),
    s.rstN = true → s.TableOk → (s.link l).state = .up → tag ∉ (s.link l).tags → (s.link l).partner = some p →
    let u := s.receivedOn l 0x12#8 [byte tag.val, channel, tone, gain]
    let statusOf (st : RecState) : LookupStatus :=
      match st with
      | .pending => .notReady
      | .valid => .hit
      | .due => .hitDue
      | .suspect => .hitSuspect
      | .stale => .stale
      | .faulted => .fault
    let sent (c : Correction) : Link :=
      { u.link l with tags := (s.link l).tags ++ [tag], out := (s.link l).out ++ [{ body := .correction c, orphan := false }] }
    let result (t : State) : Prop := exec (.lookup l (byte tag.val) channel tone gain) s = .next t
    let none' (status : LookupStatus) (aliased : Bool) : State :=
      u.withLink l (sent { tag := tag, status := status, aliased := aliased, created := false, generation := 0, values := none })
    let served (slot : Nat) (r : Record) (aliased : Bool) : Prop :=
      ∃ t, result t ∧ Table.DiffersAt s.table t.table slot (some { r with lastUse := s.epochCount })
        ∧ t.link l =
            sent
              { tag := tag, status := statusOf r.state, aliased := aliased, created := false, generation := r.generation,
                values := if r.state = .valid ∨ r.state = .due ∨ r.state = .suspect then r.held.map Holding.values else none }
        ∧ (∀ m, m ≠ l → t.link m = s.link m) ∧ { t with table := s.table, links := s.links } = s
    (8 ≤ channel.toNat ∨ 6 ≤ tone.toNat ∨ 12 ≤ gain.toNat → result (none' .badKey false))
    ∧ ∀ key : Key, key.link = l → key.channel.val = channel.toNat → key.tone.val = tone.toNat → key.gain.val = gain.toNat →
      (p.channels.toNat ≤ channel.toNat ∨ p.toneMask.getLsbD tone.toNat = false → result (none' .badKey false))
      ∧ (channel.toNat < p.channels.toNat → p.toneMask.getLsbD tone.toNat = true →
        (s.Unaliased key →
          (∀ slot r, s.Holds key slot r → served slot r false)
          ∧ (s.Lacks key → s.params.autocreateMask.testBit l.val = false → result (none' .miss false)))
        ∧ (∀ a, s.FirstMatch key a →
          let target : Key := { key with link := a.targetLink, channel := a.targetChannel }
          (a.mode = .always → (∀ slot r, s.Holds target slot r → served slot r true) ∧ (s.Lacks target → result (none' .miss true)))
          ∧ (a.mode = .fallback →
            (∀ slot r, s.Holds key slot r → r.Serving → served slot r false)
            ∧ (∀ slot r, s.NotServing key → s.Holds target slot r → r.Serving → served slot r true)
            ∧ (s.NotServing target →
              (∀ slot r, s.Holds key slot r → ¬r.Serving → served slot r false)
              ∧ (s.Lacks key → s.params.autocreateMask.testBit l.val = false → result (none' .miss false))))))

/-- Automatic creation. A LOOKUP of an absent key that no entry matches, or whose FALLBACK entry fell to its third case, on a link whose
AUTOCREATE_MASK bit is set, is answered NOT_READY with CREATED: the new record is AUTO, unpinned, PENDING and WAITING(FIRST), stamped
with the epoch counter, in the lowest free slot, or in a full table in the slot of the AUTO, unpinned, not SWEEPING record of smallest
stamp and lowest slot, which is evicted with its queue entry and its profile and reported EVICTED; then its FIRST join is offered.
Without such a record the answer is MISS. -/
def Obligations.LookupCreatesAndEvicts : Prop :=
  ∀ (s : State) (key : Key) (tag : Fin 4) (p : Partner),
    s.rstN = true → s.TableOk → (s.link key.link).state = .up → tag ∉ (s.link key.link).tags → (s.link key.link).partner = some p →
    key.channel.val < p.channels.toNat → p.toneMask.getLsbD key.tone.val = true →
    (s.Unaliased key
      ∨ ∃ a, s.FirstMatch key a ∧ a.mode = .fallback ∧ s.NotServing { key with link := a.targetLink, channel := a.targetChannel }) →
    s.Lacks key → s.params.autocreateMask.testBit key.link.val = true →
    let fresh : Record :=
      { key := key, state := .pending, policy := .auto, pin := false, held := none, generation := 0x00#8, age := 0,
        interval := s.params.baseInterval, streak := 0, failCount := 0, standing := .waiting .first,
        lastUse := s.epochCount, profile := none }
    let u := s.receivedOn key.link 0x12#8 [byte tag.val, byte key.channel.val, byte key.tone.val, byte key.gain.val]
    let sent (status : LookupStatus) (created : Bool) : Link :=
      { u.link key.link with
        tags := (s.link key.link).tags ++ [tag]
        out :=
          (s.link key.link).out
            ++ [{ body :=
                    .correction
                      { tag := tag, status := status, aliased := false, created := created, generation := 0, values := none }
                  orphan := false }] }
    let result (t : State) : Prop :=
      exec (.lookup key.link (byte tag.val) (byte key.channel.val) (byte key.tone.val) (byte key.gain.val)) s = .next t
    let candidate (e : Nat × Record) : Prop := e.2.policy = .auto ∧ e.2.pin = false ∧ ∀ i, e.2.standing ≠ .sweeping i
    (∀ n, s.LowestFree n →
      ∃ v : State, Table.DiffersAt s.table v.table n (some fresh) ∧ { v with table := s.table } = u
        ∧ result (((v.offer n key .first).1).withLink key.link (sent .notReady true)))
    ∧ ((∀ n < 512, Table.get s.table n ≠ none) →
      (∀ n r, (n, r) ∈ s.table → candidate (n, r) →
        (∀ e ∈ s.table, candidate e → r.lastUse < e.2.lastUse ∨ (r.lastUse = e.2.lastUse ∧ n ≤ e.1)) →
        ∃ v : State, Table.DiffersAt s.table v.table n (some fresh) ∧ v.poolFree = s.poolFree + r.profilePoints
          ∧ v.queue =
              { prio := s.queue.prio.filter fun q => q.slot != n, back := s.queue.back.filter fun q => q.slot != n }
          ∧ v.host = s.host.emitted s.params.noticeMask [.evicted r.key n r.state key]
          ∧ { v with table := s.table, poolFree := s.poolFree, queue := s.queue, host := s.host } = u
          ∧ result (((v.offer n key .first).1).withLink key.link (sent .notReady true)))
      ∧ ((∀ e ∈ s.table, ¬candidate e) → result (u.withLink key.link (sent .miss false))))

/-- A link leaves UP for DOWN: by GOODBYE (PARTNER), a fourth protocol fault (PROTOCOL) or a third timeout (SILENT). Its sweep, if one runs,
ends FAILED(LINK) first: the record takes WAITING with the cause at dispatch and is offered a place at once, SWEEP_END ahead of LINK_STATE.
Then the link awaits nothing, its tags are forgotten, no CORRECTION waits, it is DOWN, LINK_STATE carries the two counts as they stood, and
a HELLO joins and the HELLO timer starts; partner facts, counter and counts are kept. A GOODBYE on a link that is not UP has no effect
beyond the receiver. This holds whichever way the free value of log 7 turns out. -/
def Obligations.LinkLeavesUpForDown : Prop :=
  (∀ (s : State) (l : LinkId) (reason : LinkReason),
    let t := s.leaveUp l reason
    let change : Notice := .linkState l .down reason 0x00#8 0x00#8 0x00#8 (s.link l).faults (s.link l).timeouts
    (t.link l).state = .down ∧ (t.link l).awaited = none ∧ (t.link l).tags = [] ∧ (t.link l).hello = some 10
    ∧ (t.link l).refusalReported = false ∧ (t.link l).out.getLast? = some { body := .hello l, orphan := false }
    ∧ (∀ m ∈ (t.link l).out, m.waitingCorrection = false) ∧ OnlyHeadFinishes (s.link l).out (t.link l).out
    ∧ { t.link l with
        state := (s.link l).state, awaited := (s.link l).awaited, tags := (s.link l).tags, out := (s.link l).out,
        hello := (s.link l).hello, refusalReported := (s.link l).refusalReported } = s.link l
    ∧ (∀ m, m ≠ l → t.link m = s.link m)
    ∧ (s.sweepsOn .se0 l = false → s.sweepsOn .se1 l = false →
      t.host = s.host.emitted s.params.noticeMask [change]
      ∧ { t with links := s.links, host := s.host, freeCount := s.freeCount } = s)
    ∧ (∀ e w, s.SweepsOk → s.sweep e = some w → w.key.link = l →
      t.sweep e = none ∧ t.sweep (otherEngine e) = s.sweep (otherEngine e) ∧ t.considerDue = true
      ∧ t.host = s.host.emitted s.params.noticeMask [.sweepEnd e w.key (.failed .link) w.level w.declines false, change]
      ∧ (∀ m ∈ (t.link l).out, m.waitingCal = false)
      ∧ { t with
          table := s.table, queue := s.queue, se0 := s.se0, se1 := s.se1, links := s.links, host := s.host,
          considerDue := s.considerDue, freeCount := s.freeCount } = s
      ∧ ∃ u : State,
          Table.DiffersAt s.table u.table w.slot
            ((Table.get s.table w.slot).map fun r => { r with standing := .waiting w.cause })
          ∧ { u with table := s.table } = s
          ∧ t.table = (u.offer w.slot w.key w.cause).1.table ∧ t.queue = (u.offer w.slot w.key w.cause).1.queue))
  ∧ (∀ (s : State) (l : LinkId), s.rstN = true →
    ((s.link l).state = .up → exec (.goodbye l) s = .next ((s.receivedOn l 0x16#8 []).leaveUp l .partner))
    ∧ ((s.link l).state = .down → exec (.goodbye l) s = .next (s.receivedOn l 0x16#8 []))
    ∧ ((s.link l).state = .off → exec (.goodbye l) s = .next s))

/-- Protocol faults. On an UP link an unknown kind, a front-end kind of another length (UNKNOWN_FRAME_KIND) and a LOOKUP whose tag is
above 3 or outstanding raise the fault count by 1 and have no other effect below 4; the fourth takes the link DOWN with PROTOCOL. On a
DOWN link such a frame, and every LOOKUP, CAL_RESULT, CAL_DECLINED and DRIFT_ALERT, is discarded without counting, and an OFF link
receives nothing. -/
def Obligations.ProtocolFaultsCounted : Prop :=
  (∀ (s : State) (l : LinkId),
    let counted := s.withLink l { s.link l with faults := (s.link l).faults + 1 }
    s.protocolFault l = if 4 ≤ (s.link l).faults + 1 then counted.leaveUp l .protocol else counted)
  ∧ (∀ (s : State) (l : LinkId) (kind : Byte) (body : List Byte), s.rstN = true →
    (Instr.unknownFrameKind l kind body).wellFormed = true →
    ((s.link l).state = .up → exec (.unknownFrameKind l kind body) s = .next ((s.receivedOn l kind body).protocolFault l))
    ∧ ((s.link l).state = .down → exec (.unknownFrameKind l kind body) s = .next (s.receivedOn l kind body))
    ∧ ((s.link l).state = .off → exec (.unknownFrameKind l kind body) s = .next s))
  ∧ (∀ (s : State) (l : LinkId) (tag channel tone gain : Byte), s.rstN = true → (s.link l).state = .up →
    (4 ≤ tag.toNat ∨ ∃ t ∈ (s.link l).tags, t.val = tag.toNat) →
    exec (.lookup l tag channel tone gain) s =
      .next ((s.receivedOn l 0x12#8 [tag, channel, tone, gain]).protocolFault l))
  ∧ (∀ (s : State) (l : LinkId) (tag channel tone gain number condition channels tones : Byte) (first second : Word) (c : Instr)
      (kind : Byte) (body : List Byte), s.rstN = true →
    (c, kind, body) ∈
      [(Instr.lookup l tag channel tone gain, 0x12#8, [tag, channel, tone, gain]),
        (.calResult l number condition first second, 0x13#8,
          [number, condition] ++ bytes2 first.toNat ++ bytes2 second.toNat),
        (.calDeclined l number, 0x14#8, [number]), (.driftAlert l channels tones, 0x15#8, [channels, tones])] →
    ((s.link l).state = .down → exec c s = .next (s.receivedOn l kind body))
    ∧ ((s.link l).state = .off → exec c s = .next s))

/-- R201: the body of a CORRECTION is tag, status, flags with ALIASED in bit 0 and CREATED in bit 1, generation, then the four values
exactly when it carries them; the answers the part forms carry values only with status HIT, HIT_DUE or HIT_SUSPECT, so the length tells.
-/
def Obligations.CorrectionEncodesAnswer : Prop :=
  (∀ c : Correction, ∃ flags : Byte,
    c.body = [byte c.tag.val, c.status.code, flags, c.generation] ++ (match c.values with
      | some v => signed2 v.offsetI ++ signed2 v.offsetQ ++ bytes2 v.scale ++ signed2 v.trim
      | none => [])
    ∧ flags.getLsbD 0 = c.aliased ∧ flags.getLsbD 1 = c.created ∧ flags < 0x04#8
    ∧ c.body.length = (if c.values = none then 4 else 12))
  ∧ (∀ (tag : Fin 4) (r : Record) (aliased created : Bool), r.Sound →
    ((recordAnswer tag r aliased created).values ≠ none ↔ (recordAnswer tag r aliased created).status.code < 0x03#8)
    ∧ (recordAnswer tag r aliased created).tag = tag ∧ (recordAnswer tag r aliased created).generation = r.generation)
  ∧ (∀ (tag : Fin 4) (status : LookupStatus) (aliased : Bool),
    (noRecordAnswer tag status aliased).values = none ∧ (noRecordAnswer tag status aliased).tag = tag
    ∧ (noRecordAnswer tag status aliased).status = status ∧ (noRecordAnswer tag status aliased).generation = 0)
  ∧ (List.map LookupStatus.code [.hit, .hitDue, .hitSuspect, .notReady, .stale, .fault, .miss, .badKey]) =
      [0x00#8, 0x01#8, 0x02#8, 0x03#8, 0x04#8, 0x05#8, 0x06#8, 0x07#8]
end

