-- ==== Sys2Proof/Laws/Codec.lean ====
section
/-! SUPPORT. Reading a field back from the bytes that chapter 10 gives it. -/

namespace Sys2Proof.Machine

@[simp] theorem byte_toNat (n : Nat) : (byte n).toNat = n % 256 := rfl

@[simp] theorem byte_of_toNat (b : Byte) : byte b.toNat = b := by simp [byte]

theorem finOf?_of_lt {n x : Nat} (h : x < n) : finOf? n x = some ⟨x, h⟩ := dif_pos h

theorem finOf?_none {n x : Nat} : finOf? n x = none ↔ n ≤ x := by
  rw [finOf?]; split <;> simp <;> omega

theorem finOf?_some {n x : Nat} {i : Fin n} : finOf? n x = some i ↔ i.val = x := by
  rw [finOf?]
  split
  · simp [Fin.ext_iff, eq_comm]
  · have := i.isLt; simp; omega

/-- A number below 65536 is read back from its two bytes. -/
theorem bytes2_read {n : Nat} (h : n ≤ 65535) : (byte (n / 256)).toNat * 256 + (byte n).toNat = n := by
  simp only [byte_toNat]; omega

/-- A signed number of 16 bits is read back from its two bytes. -/
theorem signed2_read {x : Int} (low : -32768 ≤ x) (high : x ≤ 32767) :
    (BitVec.ofNat 16 ((byte ((BitVec.ofInt 16 x).toNat / 256)).toNat * 256 + (byte (BitVec.ofInt 16 x).toNat).toNat)).toInt = x := by
  rw [bytes2_read (by have := (BitVec.ofInt 16 x).isLt; omega), BitVec.ofNat_toNat, BitVec.setWidth_eq, BitVec.toInt_ofInt]
  simp only [Int.bmod]
  omega

/-- A key is read back from its four field values. -/
theorem keyOf?_key (k : Key) : keyOf? k.link.val k.channel.val k.tone.val k.gain.val = some k := by
  simp [keyOf?, finOf?]

/-- A key in its four bytes is read back. -/
@[simp] theorem keyOf?_bytes (k : Key) :
    keyOf? (byte k.link.val).toNat (byte k.channel.val).toNat (byte k.tone.val).toNat (byte k.gain.val).toNat = some k := by
  have h₁ := k.link.isLt; have h₂ := k.channel.isLt; have h₃ := k.tone.isLt; have h₄ := k.gain.isLt
  simp only [byte_toNat]
  rw [Nat.mod_eq_of_lt (by omega), Nat.mod_eq_of_lt (by omega), Nat.mod_eq_of_lt (by omega), Nat.mod_eq_of_lt (by omega)]
  exact keyOf?_key k

/-- Four field values make a key exactly when each is in its range (R1). -/
theorem keyOf?_some {l c t g : Nat} {k : Key} :
    keyOf? l c t g = some k ↔ k.link.val = l ∧ k.channel.val = c ∧ k.tone.val = t ∧ k.gain.val = g := by
  constructor
  · intro h
    simp only [keyOf?] at h
    split at h
    · rename_i h₁ h₂ h₃ h₄
      rw [finOf?_some] at h₁ h₂ h₃ h₄
      cases h
      exact ⟨h₁, h₂, h₃, h₄⟩
    · cases h
  · rintro ⟨rfl, rfl, rfl, rfl⟩
    exact keyOf?_key k

theorem keyOf?_none {l c t g : Nat} : keyOf? l c t g = none ↔ ¬(l < 4 ∧ c < 8 ∧ t < 6 ∧ g < 12) := by
  constructor
  · rintro h ⟨h₁, h₂, h₃, h₄⟩
    rw [keyOf?, finOf?_of_lt h₁, finOf?_of_lt h₂, finOf?_of_lt h₃, finOf?_of_lt h₄] at h
    cases h
  · intro h
    rcases hk : keyOf? l c t g with _ | k
    · rfl
    · obtain ⟨h₁, h₂, h₃, h₄⟩ := keyOf?_some.1 hk
      have := k.link.isLt; have := k.channel.isLt; have := k.tone.isLt; have := k.gain.isLt
      omega

@[simp] theorem switchOf?_code (b : Bool) : switchOf? (switchCode b) = some b := by cases b <;> rfl

@[simp] theorem policyOf?_code (p : Policy) : policyOf? p.code = some p := by cases p <;> rfl

@[simp] theorem aliasModeOf?_code (m : AliasMode) : aliasModeOf? m.code = some m := by cases m <;> rfl

@[simp] theorem aliasToneOf?_code (t : Option (Fin 6)) : aliasToneOf? (aliasToneCode t) = some t := by
  cases t with
  | none => rfl
  | some t => revert t; decide

/-- Values in their ranges are read back from their eight bytes, at the position they stand in a body. -/
theorem valuesAt?_read {body : List Byte} {i : Nat} {v : Values}
    (range : -32768 ≤ v.offsetI ∧ v.offsetI ≤ 32767 ∧ -32768 ≤ v.offsetQ ∧ v.offsetQ ≤ 32767 ∧ 1 ≤ v.scale ∧ v.scale ≤ 65535
      ∧ -2048 ≤ v.trim ∧ v.trim ≤ 2047)
    (h : (body.drop i).take 8 = v.bytes) : valuesAt? body i = some v := by
  obtain ⟨i₁, i₂, q₁, q₂, s₁, s₂, t₁, t₂⟩ := range
  have at' : ∀ k, k < 8 → byteAt body (i + k) = byteAt v.bytes k := by
    intro k hk
    rw [← h]
    simp [byteAt, List.getD_eq_getElem?_getD, hk]
  have b : ∀ k, k < 7 → wordAt body (i + k) = (byteAt v.bytes k).toNat * 256 + (byteAt v.bytes (k + 1)).toNat := by
    intro k hk
    simp [wordAt, at' k (by omega), Nat.add_assoc, at' (k + 1) (by omega)]
  have e₁ : intAt body i = v.offsetI := by
    have := b 0 (by omega)
    rw [Nat.add_zero] at this
    rw [intAt, this]
    exact signed2_read i₁ i₂
  have e₂ : intAt body (i + 2) = v.offsetQ := by
    rw [intAt, b 2 (by omega)]
    exact signed2_read q₁ q₂
  have e₃ : wordAt body (i + 4) = v.scale := by
    rw [b 4 (by omega)]
    exact bytes2_read s₂
  have e₄ : intAt body (i + 6) = v.trim := by
    rw [intAt, b 6 (by omega)]
    exact signed2_read (by omega) (by omega)
  simp only [valuesAt?, e₁, e₂, e₃, e₄]
  rw [if_neg (by omega)]

end Sys2Proof.Machine
end

