-- ==== Sys2Proof/Laws/State.lean ====
section
/-! SUPPORT. One lemma per field per update of the state, true by `rfl`, so that no later proof unfolds an update. -/

namespace Sys2Proof.Machine

variable (s : State)

@[simp] theorem State.withTable_table (v : Table) : (s.withTable v).table = v := rfl
@[simp] theorem State.withTable_poolFree (v : Table) : (s.withTable v).poolFree = s.poolFree := rfl
@[simp] theorem State.withTable_epochCount (v : Table) : (s.withTable v).epochCount = s.epochCount := rfl
@[simp] theorem State.withTable_epoch (v : Table) : (s.withTable v).epoch = s.epoch := rfl
@[simp] theorem State.withTable_queue (v : Table) : (s.withTable v).queue = s.queue := rfl
@[simp] theorem State.withTable_se0 (v : Table) : (s.withTable v).se0 = s.se0 := rfl
@[simp] theorem State.withTable_se1 (v : Table) : (s.withTable v).se1 = s.se1 := rfl
@[simp] theorem State.withTable_aliases (v : Table) : (s.withTable v).aliases = s.aliases := rfl
@[simp] theorem State.withTable_links (v : Table) : (s.withTable v).links = s.links := rfl
@[simp] theorem State.withTable_host (v : Table) : (s.withTable v).host = s.host := rfl
@[simp] theorem State.withTable_store (v : Table) : (s.withTable v).store = s.store := rfl
@[simp] theorem State.withTable_rstN (v : Table) : (s.withTable v).rstN = s.rstN := rfl
@[simp] theorem State.withTable_considerDue (v : Table) : (s.withTable v).considerDue = s.considerDue := rfl
@[simp] theorem State.withTable_freeCount (v : Table) : (s.withTable v).freeCount = s.freeCount := rfl
@[simp] theorem State.withTable_pending (v : Table) : (s.withTable v).pending = s.pending := rfl

@[simp] theorem State.withPool_table (v : Nat) : (s.withPool v).table = s.table := rfl
@[simp] theorem State.withPool_poolFree (v : Nat) : (s.withPool v).poolFree = v := rfl
@[simp] theorem State.withPool_epochCount (v : Nat) : (s.withPool v).epochCount = s.epochCount := rfl
@[simp] theorem State.withPool_epoch (v : Nat) : (s.withPool v).epoch = s.epoch := rfl
@[simp] theorem State.withPool_queue (v : Nat) : (s.withPool v).queue = s.queue := rfl
@[simp] theorem State.withPool_se0 (v : Nat) : (s.withPool v).se0 = s.se0 := rfl
@[simp] theorem State.withPool_se1 (v : Nat) : (s.withPool v).se1 = s.se1 := rfl
@[simp] theorem State.withPool_aliases (v : Nat) : (s.withPool v).aliases = s.aliases := rfl
@[simp] theorem State.withPool_links (v : Nat) : (s.withPool v).links = s.links := rfl
@[simp] theorem State.withPool_host (v : Nat) : (s.withPool v).host = s.host := rfl
@[simp] theorem State.withPool_store (v : Nat) : (s.withPool v).store = s.store := rfl
@[simp] theorem State.withPool_rstN (v : Nat) : (s.withPool v).rstN = s.rstN := rfl
@[simp] theorem State.withPool_considerDue (v : Nat) : (s.withPool v).considerDue = s.considerDue := rfl
@[simp] theorem State.withPool_freeCount (v : Nat) : (s.withPool v).freeCount = s.freeCount := rfl
@[simp] theorem State.withPool_pending (v : Nat) : (s.withPool v).pending = s.pending := rfl

@[simp] theorem State.withEpochCount_table (v : Nat) : (s.withEpochCount v).table = s.table := rfl
@[simp] theorem State.withEpochCount_poolFree (v : Nat) : (s.withEpochCount v).poolFree = s.poolFree := rfl
@[simp] theorem State.withEpochCount_epochCount (v : Nat) : (s.withEpochCount v).epochCount = v := rfl
@[simp] theorem State.withEpochCount_epoch (v : Nat) : (s.withEpochCount v).epoch = s.epoch := rfl
@[simp] theorem State.withEpochCount_queue (v : Nat) : (s.withEpochCount v).queue = s.queue := rfl
@[simp] theorem State.withEpochCount_se0 (v : Nat) : (s.withEpochCount v).se0 = s.se0 := rfl
@[simp] theorem State.withEpochCount_se1 (v : Nat) : (s.withEpochCount v).se1 = s.se1 := rfl
@[simp] theorem State.withEpochCount_aliases (v : Nat) : (s.withEpochCount v).aliases = s.aliases := rfl
@[simp] theorem State.withEpochCount_links (v : Nat) : (s.withEpochCount v).links = s.links := rfl
@[simp] theorem State.withEpochCount_host (v : Nat) : (s.withEpochCount v).host = s.host := rfl
@[simp] theorem State.withEpochCount_store (v : Nat) : (s.withEpochCount v).store = s.store := rfl
@[simp] theorem State.withEpochCount_rstN (v : Nat) : (s.withEpochCount v).rstN = s.rstN := rfl
@[simp] theorem State.withEpochCount_considerDue (v : Nat) : (s.withEpochCount v).considerDue = s.considerDue := rfl
@[simp] theorem State.withEpochCount_freeCount (v : Nat) : (s.withEpochCount v).freeCount = s.freeCount := rfl
@[simp] theorem State.withEpochCount_pending (v : Nat) : (s.withEpochCount v).pending = s.pending := rfl

@[simp] theorem State.withEpoch_table (v : EpochTimer) : (s.withEpoch v).table = s.table := rfl
@[simp] theorem State.withEpoch_poolFree (v : EpochTimer) : (s.withEpoch v).poolFree = s.poolFree := rfl
@[simp] theorem State.withEpoch_epochCount (v : EpochTimer) : (s.withEpoch v).epochCount = s.epochCount := rfl
@[simp] theorem State.withEpoch_epoch (v : EpochTimer) : (s.withEpoch v).epoch = v := rfl
@[simp] theorem State.withEpoch_queue (v : EpochTimer) : (s.withEpoch v).queue = s.queue := rfl
@[simp] theorem State.withEpoch_se0 (v : EpochTimer) : (s.withEpoch v).se0 = s.se0 := rfl
@[simp] theorem State.withEpoch_se1 (v : EpochTimer) : (s.withEpoch v).se1 = s.se1 := rfl
@[simp] theorem State.withEpoch_aliases (v : EpochTimer) : (s.withEpoch v).aliases = s.aliases := rfl
@[simp] theorem State.withEpoch_links (v : EpochTimer) : (s.withEpoch v).links = s.links := rfl
@[simp] theorem State.withEpoch_host (v : EpochTimer) : (s.withEpoch v).host = s.host := rfl
@[simp] theorem State.withEpoch_store (v : EpochTimer) : (s.withEpoch v).store = s.store := rfl
@[simp] theorem State.withEpoch_rstN (v : EpochTimer) : (s.withEpoch v).rstN = s.rstN := rfl
@[simp] theorem State.withEpoch_considerDue (v : EpochTimer) : (s.withEpoch v).considerDue = s.considerDue := rfl
@[simp] theorem State.withEpoch_freeCount (v : EpochTimer) : (s.withEpoch v).freeCount = s.freeCount := rfl
@[simp] theorem State.withEpoch_pending (v : EpochTimer) : (s.withEpoch v).pending = s.pending := rfl

@[simp] theorem State.withQueue_table (v : RefreshQueue) : (s.withQueue v).table = s.table := rfl
@[simp] theorem State.withQueue_poolFree (v : RefreshQueue) : (s.withQueue v).poolFree = s.poolFree := rfl
@[simp] theorem State.withQueue_epochCount (v : RefreshQueue) : (s.withQueue v).epochCount = s.epochCount := rfl
@[simp] theorem State.withQueue_epoch (v : RefreshQueue) : (s.withQueue v).epoch = s.epoch := rfl
@[simp] theorem State.withQueue_queue (v : RefreshQueue) : (s.withQueue v).queue = v := rfl
@[simp] theorem State.withQueue_se0 (v : RefreshQueue) : (s.withQueue v).se0 = s.se0 := rfl
@[simp] theorem State.withQueue_se1 (v : RefreshQueue) : (s.withQueue v).se1 = s.se1 := rfl
@[simp] theorem State.withQueue_aliases (v : RefreshQueue) : (s.withQueue v).aliases = s.aliases := rfl
@[simp] theorem State.withQueue_links (v : RefreshQueue) : (s.withQueue v).links = s.links := rfl
@[simp] theorem State.withQueue_host (v : RefreshQueue) : (s.withQueue v).host = s.host := rfl
@[simp] theorem State.withQueue_store (v : RefreshQueue) : (s.withQueue v).store = s.store := rfl
@[simp] theorem State.withQueue_rstN (v : RefreshQueue) : (s.withQueue v).rstN = s.rstN := rfl
@[simp] theorem State.withQueue_considerDue (v : RefreshQueue) : (s.withQueue v).considerDue = s.considerDue := rfl
@[simp] theorem State.withQueue_freeCount (v : RefreshQueue) : (s.withQueue v).freeCount = s.freeCount := rfl
@[simp] theorem State.withQueue_pending (v : RefreshQueue) : (s.withQueue v).pending = s.pending := rfl

@[simp] theorem State.withSe0_table (v : Option Sweep) : (s.withSe0 v).table = s.table := rfl
@[simp] theorem State.withSe0_poolFree (v : Option Sweep) : (s.withSe0 v).poolFree = s.poolFree := rfl
@[simp] theorem State.withSe0_epochCount (v : Option Sweep) : (s.withSe0 v).epochCount = s.epochCount := rfl
@[simp] theorem State.withSe0_epoch (v : Option Sweep) : (s.withSe0 v).epoch = s.epoch := rfl
@[simp] theorem State.withSe0_queue (v : Option Sweep) : (s.withSe0 v).queue = s.queue := rfl
@[simp] theorem State.withSe0_se0 (v : Option Sweep) : (s.withSe0 v).se0 = v := rfl
@[simp] theorem State.withSe0_se1 (v : Option Sweep) : (s.withSe0 v).se1 = s.se1 := rfl
@[simp] theorem State.withSe0_aliases (v : Option Sweep) : (s.withSe0 v).aliases = s.aliases := rfl
@[simp] theorem State.withSe0_links (v : Option Sweep) : (s.withSe0 v).links = s.links := rfl
@[simp] theorem State.withSe0_host (v : Option Sweep) : (s.withSe0 v).host = s.host := rfl
@[simp] theorem State.withSe0_store (v : Option Sweep) : (s.withSe0 v).store = s.store := rfl
@[simp] theorem State.withSe0_rstN (v : Option Sweep) : (s.withSe0 v).rstN = s.rstN := rfl
@[simp] theorem State.withSe0_considerDue (v : Option Sweep) : (s.withSe0 v).considerDue = s.considerDue := rfl
@[simp] theorem State.withSe0_freeCount (v : Option Sweep) : (s.withSe0 v).freeCount = s.freeCount := rfl
@[simp] theorem State.withSe0_pending (v : Option Sweep) : (s.withSe0 v).pending = s.pending := rfl

@[simp] theorem State.withSe1_table (v : Option Sweep) : (s.withSe1 v).table = s.table := rfl
@[simp] theorem State.withSe1_poolFree (v : Option Sweep) : (s.withSe1 v).poolFree = s.poolFree := rfl
@[simp] theorem State.withSe1_epochCount (v : Option Sweep) : (s.withSe1 v).epochCount = s.epochCount := rfl
@[simp] theorem State.withSe1_epoch (v : Option Sweep) : (s.withSe1 v).epoch = s.epoch := rfl
@[simp] theorem State.withSe1_queue (v : Option Sweep) : (s.withSe1 v).queue = s.queue := rfl
@[simp] theorem State.withSe1_se0 (v : Option Sweep) : (s.withSe1 v).se0 = s.se0 := rfl
@[simp] theorem State.withSe1_se1 (v : Option Sweep) : (s.withSe1 v).se1 = v := rfl
@[simp] theorem State.withSe1_aliases (v : Option Sweep) : (s.withSe1 v).aliases = s.aliases := rfl
@[simp] theorem State.withSe1_links (v : Option Sweep) : (s.withSe1 v).links = s.links := rfl
@[simp] theorem State.withSe1_host (v : Option Sweep) : (s.withSe1 v).host = s.host := rfl
@[simp] theorem State.withSe1_store (v : Option Sweep) : (s.withSe1 v).store = s.store := rfl
@[simp] theorem State.withSe1_rstN (v : Option Sweep) : (s.withSe1 v).rstN = s.rstN := rfl
@[simp] theorem State.withSe1_considerDue (v : Option Sweep) : (s.withSe1 v).considerDue = s.considerDue := rfl
@[simp] theorem State.withSe1_freeCount (v : Option Sweep) : (s.withSe1 v).freeCount = s.freeCount := rfl
@[simp] theorem State.withSe1_pending (v : Option Sweep) : (s.withSe1 v).pending = s.pending := rfl

@[simp] theorem State.withAliases_table (v : Vector (Option AliasEntry) 8) : (s.withAliases v).table = s.table := rfl
@[simp] theorem State.withAliases_poolFree (v : Vector (Option AliasEntry) 8) : (s.withAliases v).poolFree = s.poolFree := rfl
@[simp] theorem State.withAliases_epochCount (v : Vector (Option AliasEntry) 8) : (s.withAliases v).epochCount = s.epochCount := rfl
@[simp] theorem State.withAliases_epoch (v : Vector (Option AliasEntry) 8) : (s.withAliases v).epoch = s.epoch := rfl
@[simp] theorem State.withAliases_queue (v : Vector (Option AliasEntry) 8) : (s.withAliases v).queue = s.queue := rfl
@[simp] theorem State.withAliases_se0 (v : Vector (Option AliasEntry) 8) : (s.withAliases v).se0 = s.se0 := rfl
@[simp] theorem State.withAliases_se1 (v : Vector (Option AliasEntry) 8) : (s.withAliases v).se1 = s.se1 := rfl
@[simp] theorem State.withAliases_aliases (v : Vector (Option AliasEntry) 8) : (s.withAliases v).aliases = v := rfl
@[simp] theorem State.withAliases_links (v : Vector (Option AliasEntry) 8) : (s.withAliases v).links = s.links := rfl
@[simp] theorem State.withAliases_host (v : Vector (Option AliasEntry) 8) : (s.withAliases v).host = s.host := rfl
@[simp] theorem State.withAliases_store (v : Vector (Option AliasEntry) 8) : (s.withAliases v).store = s.store := rfl
@[simp] theorem State.withAliases_rstN (v : Vector (Option AliasEntry) 8) : (s.withAliases v).rstN = s.rstN := rfl
@[simp] theorem State.withAliases_considerDue (v : Vector (Option AliasEntry) 8) : (s.withAliases v).considerDue = s.considerDue := rfl
@[simp] theorem State.withAliases_freeCount (v : Vector (Option AliasEntry) 8) : (s.withAliases v).freeCount = s.freeCount := rfl
@[simp] theorem State.withAliases_pending (v : Vector (Option AliasEntry) 8) : (s.withAliases v).pending = s.pending := rfl

@[simp] theorem State.withLinks_table (v : Vector Link 4) : (s.withLinks v).table = s.table := rfl
@[simp] theorem State.withLinks_poolFree (v : Vector Link 4) : (s.withLinks v).poolFree = s.poolFree := rfl
@[simp] theorem State.withLinks_epochCount (v : Vector Link 4) : (s.withLinks v).epochCount = s.epochCount := rfl
@[simp] theorem State.withLinks_epoch (v : Vector Link 4) : (s.withLinks v).epoch = s.epoch := rfl
@[simp] theorem State.withLinks_queue (v : Vector Link 4) : (s.withLinks v).queue = s.queue := rfl
@[simp] theorem State.withLinks_se0 (v : Vector Link 4) : (s.withLinks v).se0 = s.se0 := rfl
@[simp] theorem State.withLinks_se1 (v : Vector Link 4) : (s.withLinks v).se1 = s.se1 := rfl
@[simp] theorem State.withLinks_aliases (v : Vector Link 4) : (s.withLinks v).aliases = s.aliases := rfl
@[simp] theorem State.withLinks_links (v : Vector Link 4) : (s.withLinks v).links = v := rfl
@[simp] theorem State.withLinks_host (v : Vector Link 4) : (s.withLinks v).host = s.host := rfl
@[simp] theorem State.withLinks_store (v : Vector Link 4) : (s.withLinks v).store = s.store := rfl
@[simp] theorem State.withLinks_rstN (v : Vector Link 4) : (s.withLinks v).rstN = s.rstN := rfl
@[simp] theorem State.withLinks_considerDue (v : Vector Link 4) : (s.withLinks v).considerDue = s.considerDue := rfl
@[simp] theorem State.withLinks_freeCount (v : Vector Link 4) : (s.withLinks v).freeCount = s.freeCount := rfl
@[simp] theorem State.withLinks_pending (v : Vector Link 4) : (s.withLinks v).pending = s.pending := rfl

@[simp] theorem State.withHost_table (v : HostPort) : (s.withHost v).table = s.table := rfl
@[simp] theorem State.withHost_poolFree (v : HostPort) : (s.withHost v).poolFree = s.poolFree := rfl
@[simp] theorem State.withHost_epochCount (v : HostPort) : (s.withHost v).epochCount = s.epochCount := rfl
@[simp] theorem State.withHost_epoch (v : HostPort) : (s.withHost v).epoch = s.epoch := rfl
@[simp] theorem State.withHost_queue (v : HostPort) : (s.withHost v).queue = s.queue := rfl
@[simp] theorem State.withHost_se0 (v : HostPort) : (s.withHost v).se0 = s.se0 := rfl
@[simp] theorem State.withHost_se1 (v : HostPort) : (s.withHost v).se1 = s.se1 := rfl
@[simp] theorem State.withHost_aliases (v : HostPort) : (s.withHost v).aliases = s.aliases := rfl
@[simp] theorem State.withHost_links (v : HostPort) : (s.withHost v).links = s.links := rfl
@[simp] theorem State.withHost_host (v : HostPort) : (s.withHost v).host = v := rfl
@[simp] theorem State.withHost_store (v : HostPort) : (s.withHost v).store = s.store := rfl
@[simp] theorem State.withHost_rstN (v : HostPort) : (s.withHost v).rstN = s.rstN := rfl
@[simp] theorem State.withHost_considerDue (v : HostPort) : (s.withHost v).considerDue = s.considerDue := rfl
@[simp] theorem State.withHost_freeCount (v : HostPort) : (s.withHost v).freeCount = s.freeCount := rfl
@[simp] theorem State.withHost_pending (v : HostPort) : (s.withHost v).pending = s.pending := rfl

@[simp] theorem State.withStore_table (v : Store) : (s.withStore v).table = s.table := rfl
@[simp] theorem State.withStore_poolFree (v : Store) : (s.withStore v).poolFree = s.poolFree := rfl
@[simp] theorem State.withStore_epochCount (v : Store) : (s.withStore v).epochCount = s.epochCount := rfl
@[simp] theorem State.withStore_epoch (v : Store) : (s.withStore v).epoch = s.epoch := rfl
@[simp] theorem State.withStore_queue (v : Store) : (s.withStore v).queue = s.queue := rfl
@[simp] theorem State.withStore_se0 (v : Store) : (s.withStore v).se0 = s.se0 := rfl
@[simp] theorem State.withStore_se1 (v : Store) : (s.withStore v).se1 = s.se1 := rfl
@[simp] theorem State.withStore_aliases (v : Store) : (s.withStore v).aliases = s.aliases := rfl
@[simp] theorem State.withStore_links (v : Store) : (s.withStore v).links = s.links := rfl
@[simp] theorem State.withStore_host (v : Store) : (s.withStore v).host = s.host := rfl
@[simp] theorem State.withStore_store (v : Store) : (s.withStore v).store = v := rfl
@[simp] theorem State.withStore_rstN (v : Store) : (s.withStore v).rstN = s.rstN := rfl
@[simp] theorem State.withStore_considerDue (v : Store) : (s.withStore v).considerDue = s.considerDue := rfl
@[simp] theorem State.withStore_freeCount (v : Store) : (s.withStore v).freeCount = s.freeCount := rfl
@[simp] theorem State.withStore_pending (v : Store) : (s.withStore v).pending = s.pending := rfl

@[simp] theorem State.withRstN_table (v : Bool) : (s.withRstN v).table = s.table := rfl
@[simp] theorem State.withRstN_poolFree (v : Bool) : (s.withRstN v).poolFree = s.poolFree := rfl
@[simp] theorem State.withRstN_epochCount (v : Bool) : (s.withRstN v).epochCount = s.epochCount := rfl
@[simp] theorem State.withRstN_epoch (v : Bool) : (s.withRstN v).epoch = s.epoch := rfl
@[simp] theorem State.withRstN_queue (v : Bool) : (s.withRstN v).queue = s.queue := rfl
@[simp] theorem State.withRstN_se0 (v : Bool) : (s.withRstN v).se0 = s.se0 := rfl
@[simp] theorem State.withRstN_se1 (v : Bool) : (s.withRstN v).se1 = s.se1 := rfl
@[simp] theorem State.withRstN_aliases (v : Bool) : (s.withRstN v).aliases = s.aliases := rfl
@[simp] theorem State.withRstN_links (v : Bool) : (s.withRstN v).links = s.links := rfl
@[simp] theorem State.withRstN_host (v : Bool) : (s.withRstN v).host = s.host := rfl
@[simp] theorem State.withRstN_store (v : Bool) : (s.withRstN v).store = s.store := rfl
@[simp] theorem State.withRstN_rstN (v : Bool) : (s.withRstN v).rstN = v := rfl
@[simp] theorem State.withRstN_considerDue (v : Bool) : (s.withRstN v).considerDue = s.considerDue := rfl
@[simp] theorem State.withRstN_freeCount (v : Bool) : (s.withRstN v).freeCount = s.freeCount := rfl
@[simp] theorem State.withRstN_pending (v : Bool) : (s.withRstN v).pending = s.pending := rfl

@[simp] theorem State.withConsider_table (v : Bool) : (s.withConsider v).table = s.table := rfl
@[simp] theorem State.withConsider_poolFree (v : Bool) : (s.withConsider v).poolFree = s.poolFree := rfl
@[simp] theorem State.withConsider_epochCount (v : Bool) : (s.withConsider v).epochCount = s.epochCount := rfl
@[simp] theorem State.withConsider_epoch (v : Bool) : (s.withConsider v).epoch = s.epoch := rfl
@[simp] theorem State.withConsider_queue (v : Bool) : (s.withConsider v).queue = s.queue := rfl
@[simp] theorem State.withConsider_se0 (v : Bool) : (s.withConsider v).se0 = s.se0 := rfl
@[simp] theorem State.withConsider_se1 (v : Bool) : (s.withConsider v).se1 = s.se1 := rfl
@[simp] theorem State.withConsider_aliases (v : Bool) : (s.withConsider v).aliases = s.aliases := rfl
@[simp] theorem State.withConsider_links (v : Bool) : (s.withConsider v).links = s.links := rfl
@[simp] theorem State.withConsider_host (v : Bool) : (s.withConsider v).host = s.host := rfl
@[simp] theorem State.withConsider_store (v : Bool) : (s.withConsider v).store = s.store := rfl
@[simp] theorem State.withConsider_rstN (v : Bool) : (s.withConsider v).rstN = s.rstN := rfl
@[simp] theorem State.withConsider_considerDue (v : Bool) : (s.withConsider v).considerDue = v := rfl
@[simp] theorem State.withConsider_freeCount (v : Bool) : (s.withConsider v).freeCount = s.freeCount := rfl
@[simp] theorem State.withConsider_pending (v : Bool) : (s.withConsider v).pending = s.pending := rfl

@[simp] theorem State.withFreeCount_table (v : Nat) : (s.withFreeCount v).table = s.table := rfl
@[simp] theorem State.withFreeCount_poolFree (v : Nat) : (s.withFreeCount v).poolFree = s.poolFree := rfl
@[simp] theorem State.withFreeCount_epochCount (v : Nat) : (s.withFreeCount v).epochCount = s.epochCount := rfl
@[simp] theorem State.withFreeCount_epoch (v : Nat) : (s.withFreeCount v).epoch = s.epoch := rfl
@[simp] theorem State.withFreeCount_queue (v : Nat) : (s.withFreeCount v).queue = s.queue := rfl
@[simp] theorem State.withFreeCount_se0 (v : Nat) : (s.withFreeCount v).se0 = s.se0 := rfl
@[simp] theorem State.withFreeCount_se1 (v : Nat) : (s.withFreeCount v).se1 = s.se1 := rfl
@[simp] theorem State.withFreeCount_aliases (v : Nat) : (s.withFreeCount v).aliases = s.aliases := rfl
@[simp] theorem State.withFreeCount_links (v : Nat) : (s.withFreeCount v).links = s.links := rfl
@[simp] theorem State.withFreeCount_host (v : Nat) : (s.withFreeCount v).host = s.host := rfl
@[simp] theorem State.withFreeCount_store (v : Nat) : (s.withFreeCount v).store = s.store := rfl
@[simp] theorem State.withFreeCount_rstN (v : Nat) : (s.withFreeCount v).rstN = s.rstN := rfl
@[simp] theorem State.withFreeCount_considerDue (v : Nat) : (s.withFreeCount v).considerDue = s.considerDue := rfl
@[simp] theorem State.withFreeCount_freeCount (v : Nat) : (s.withFreeCount v).freeCount = v := rfl
@[simp] theorem State.withFreeCount_pending (v : Nat) : (s.withFreeCount v).pending = s.pending := rfl
@[simp] theorem State.nextDraw_table : s.nextDraw.table = s.table := rfl
@[simp] theorem State.nextDraw_poolFree : s.nextDraw.poolFree = s.poolFree := rfl
@[simp] theorem State.nextDraw_epochCount : s.nextDraw.epochCount = s.epochCount := rfl
@[simp] theorem State.nextDraw_epoch : s.nextDraw.epoch = s.epoch := rfl
@[simp] theorem State.nextDraw_queue : s.nextDraw.queue = s.queue := rfl
@[simp] theorem State.nextDraw_se0 : s.nextDraw.se0 = s.se0 := rfl
@[simp] theorem State.nextDraw_se1 : s.nextDraw.se1 = s.se1 := rfl
@[simp] theorem State.nextDraw_aliases : s.nextDraw.aliases = s.aliases := rfl
@[simp] theorem State.nextDraw_links : s.nextDraw.links = s.links := rfl
@[simp] theorem State.nextDraw_host : s.nextDraw.host = s.host := rfl
@[simp] theorem State.nextDraw_store : s.nextDraw.store = s.store := rfl
@[simp] theorem State.nextDraw_rstN : s.nextDraw.rstN = s.rstN := rfl
@[simp] theorem State.nextDraw_considerDue : s.nextDraw.considerDue = s.considerDue := rfl
@[simp] theorem State.nextDraw_pending : s.nextDraw.pending = s.pending := rfl
@[simp] theorem State.nextDraw_freeCount : s.nextDraw.freeCount = s.freeCount + 1 := rfl

/-! ## Engines and links -/

@[simp] theorem State.withSweep_table (e : EngineId) (v : Option Sweep) : (s.withSweep e v).table = s.table := by cases e <;> rfl
@[simp] theorem State.withSweep_poolFree (e : EngineId) (v : Option Sweep) : (s.withSweep e v).poolFree = s.poolFree := by cases e <;> rfl
@[simp] theorem State.withSweep_epochCount (e : EngineId) (v : Option Sweep) : (s.withSweep e v).epochCount = s.epochCount := by cases e <;> rfl
@[simp] theorem State.withSweep_epoch (e : EngineId) (v : Option Sweep) : (s.withSweep e v).epoch = s.epoch := by cases e <;> rfl
@[simp] theorem State.withSweep_queue (e : EngineId) (v : Option Sweep) : (s.withSweep e v).queue = s.queue := by cases e <;> rfl
@[simp] theorem State.withSweep_aliases (e : EngineId) (v : Option Sweep) : (s.withSweep e v).aliases = s.aliases := by cases e <;> rfl
@[simp] theorem State.withSweep_links (e : EngineId) (v : Option Sweep) : (s.withSweep e v).links = s.links := by cases e <;> rfl
@[simp] theorem State.withSweep_host (e : EngineId) (v : Option Sweep) : (s.withSweep e v).host = s.host := by cases e <;> rfl
@[simp] theorem State.withSweep_store (e : EngineId) (v : Option Sweep) : (s.withSweep e v).store = s.store := by cases e <;> rfl
@[simp] theorem State.withSweep_rstN (e : EngineId) (v : Option Sweep) : (s.withSweep e v).rstN = s.rstN := by cases e <;> rfl
@[simp] theorem State.withSweep_considerDue (e : EngineId) (v : Option Sweep) : (s.withSweep e v).considerDue = s.considerDue := by cases e <;> rfl
@[simp] theorem State.withSweep_freeCount (e : EngineId) (v : Option Sweep) : (s.withSweep e v).freeCount = s.freeCount := by cases e <;> rfl
@[simp] theorem State.withSweep_pending (e : EngineId) (v : Option Sweep) : (s.withSweep e v).pending = s.pending := by cases e <;> rfl
@[simp] theorem State.withLink_table (l : LinkId) (v : Link) : (s.withLink l v).table = s.table := rfl
@[simp] theorem State.withLink_poolFree (l : LinkId) (v : Link) : (s.withLink l v).poolFree = s.poolFree := rfl
@[simp] theorem State.withLink_epochCount (l : LinkId) (v : Link) : (s.withLink l v).epochCount = s.epochCount := rfl
@[simp] theorem State.withLink_epoch (l : LinkId) (v : Link) : (s.withLink l v).epoch = s.epoch := rfl
@[simp] theorem State.withLink_queue (l : LinkId) (v : Link) : (s.withLink l v).queue = s.queue := rfl
@[simp] theorem State.withLink_se0 (l : LinkId) (v : Link) : (s.withLink l v).se0 = s.se0 := rfl
@[simp] theorem State.withLink_se1 (l : LinkId) (v : Link) : (s.withLink l v).se1 = s.se1 := rfl
@[simp] theorem State.withLink_aliases (l : LinkId) (v : Link) : (s.withLink l v).aliases = s.aliases := rfl
@[simp] theorem State.withLink_host (l : LinkId) (v : Link) : (s.withLink l v).host = s.host := rfl
@[simp] theorem State.withLink_store (l : LinkId) (v : Link) : (s.withLink l v).store = s.store := rfl
@[simp] theorem State.withLink_rstN (l : LinkId) (v : Link) : (s.withLink l v).rstN = s.rstN := rfl
@[simp] theorem State.withLink_considerDue (l : LinkId) (v : Link) : (s.withLink l v).considerDue = s.considerDue := rfl
@[simp] theorem State.withLink_freeCount (l : LinkId) (v : Link) : (s.withLink l v).freeCount = s.freeCount := rfl
@[simp] theorem State.withLink_pending (l : LinkId) (v : Link) : (s.withLink l v).pending = s.pending := rfl

/-- An engine reads what was set for it. -/
@[simp] theorem State.withSweep_sweep (e : EngineId) (v : Option Sweep) : (s.withSweep e v).sweep e = v := by cases e <;> rfl

/-- The other engine reads as before. -/
@[simp] theorem State.withSweep_sweep_other (e : EngineId) (v : Option Sweep) :
    (s.withSweep e v).sweep (otherEngine e) = s.sweep (otherEngine e) := by cases e <;> rfl

/-- An engine after a set, by whether it is the one set. -/
theorem State.withSweep_sweep_eq (e f : EngineId) (v : Option Sweep) :
    (s.withSweep e v).sweep f = if f = e then v else s.sweep f := by cases e <;> cases f <;> rfl

/-- A link after a set, by whether it is the one set. -/
theorem State.withLink_link_eq (l m : LinkId) (v : Link) : (s.withLink l v).link m = if m = l then v else s.link m := by
  simp only [State.link, State.withLink, State.withLinks_links, Fin.getElem_fin, Vector.getElem_set, Fin.ext_iff]
  by_cases h : l.val = m.val
  · simp [h]
  · simp [h, Ne.symm h]

/-- A link reads what was set for it. -/
@[simp] theorem State.withLink_link (l : LinkId) (v : Link) : (s.withLink l v).link l = v := by
  simp [State.withLink_link_eq]

/-- Another link reads as before. -/
theorem State.withLink_link_ne {l m : LinkId} (h : m ≠ l) (v : Link) : (s.withLink l v).link m = s.link m := by
  simp [State.withLink_link_eq, h]

/-! ## Reads that no update of another field changes -/

@[simp] theorem State.withTable_sweep (v : Table) (e : EngineId) : (s.withTable v).sweep e = s.sweep e := by cases e <;> rfl
@[simp] theorem State.withTable_link (v : Table) (l : LinkId) : (s.withTable v).link l = s.link l := rfl
@[simp] theorem State.withTable_params (v : Table) : (s.withTable v).params = s.params := rfl
@[simp] theorem State.withPool_sweep (v : Nat) (e : EngineId) : (s.withPool v).sweep e = s.sweep e := by cases e <;> rfl
@[simp] theorem State.withPool_link (v : Nat) (l : LinkId) : (s.withPool v).link l = s.link l := rfl
@[simp] theorem State.withPool_params (v : Nat) : (s.withPool v).params = s.params := rfl
@[simp] theorem State.withEpochCount_sweep (v : Nat) (e : EngineId) : (s.withEpochCount v).sweep e = s.sweep e := by cases e <;> rfl
@[simp] theorem State.withEpochCount_link (v : Nat) (l : LinkId) : (s.withEpochCount v).link l = s.link l := rfl
@[simp] theorem State.withEpochCount_params (v : Nat) : (s.withEpochCount v).params = s.params := rfl
@[simp] theorem State.withEpoch_sweep (v : EpochTimer) (e : EngineId) : (s.withEpoch v).sweep e = s.sweep e := by cases e <;> rfl
@[simp] theorem State.withEpoch_link (v : EpochTimer) (l : LinkId) : (s.withEpoch v).link l = s.link l := rfl
@[simp] theorem State.withEpoch_params (v : EpochTimer) : (s.withEpoch v).params = s.params := rfl
@[simp] theorem State.withQueue_sweep (v : RefreshQueue) (e : EngineId) : (s.withQueue v).sweep e = s.sweep e := by cases e <;> rfl
@[simp] theorem State.withQueue_link (v : RefreshQueue) (l : LinkId) : (s.withQueue v).link l = s.link l := rfl
@[simp] theorem State.withQueue_params (v : RefreshQueue) : (s.withQueue v).params = s.params := rfl
@[simp] theorem State.withSe0_link (v : Option Sweep) (l : LinkId) : (s.withSe0 v).link l = s.link l := rfl
@[simp] theorem State.withSe0_params (v : Option Sweep) : (s.withSe0 v).params = s.params := rfl
@[simp] theorem State.withSe1_link (v : Option Sweep) (l : LinkId) : (s.withSe1 v).link l = s.link l := rfl
@[simp] theorem State.withSe1_params (v : Option Sweep) : (s.withSe1 v).params = s.params := rfl
@[simp] theorem State.withAliases_sweep (v : Vector (Option AliasEntry) 8) (e : EngineId) : (s.withAliases v).sweep e = s.sweep e := by cases e <;> rfl
@[simp] theorem State.withAliases_link (v : Vector (Option AliasEntry) 8) (l : LinkId) : (s.withAliases v).link l = s.link l := rfl
@[simp] theorem State.withAliases_params (v : Vector (Option AliasEntry) 8) : (s.withAliases v).params = s.params := rfl
@[simp] theorem State.withLinks_sweep (v : Vector Link 4) (e : EngineId) : (s.withLinks v).sweep e = s.sweep e := by cases e <;> rfl
@[simp] theorem State.withLinks_params (v : Vector Link 4) : (s.withLinks v).params = s.params := rfl
@[simp] theorem State.withHost_sweep (v : HostPort) (e : EngineId) : (s.withHost v).sweep e = s.sweep e := by cases e <;> rfl
@[simp] theorem State.withHost_link (v : HostPort) (l : LinkId) : (s.withHost v).link l = s.link l := rfl
@[simp] theorem State.withHost_params (v : HostPort) : (s.withHost v).params = s.params := rfl
@[simp] theorem State.withStore_sweep (v : Store) (e : EngineId) : (s.withStore v).sweep e = s.sweep e := by cases e <;> rfl
@[simp] theorem State.withStore_link (v : Store) (l : LinkId) : (s.withStore v).link l = s.link l := rfl
@[simp] theorem State.withRstN_sweep (v : Bool) (e : EngineId) : (s.withRstN v).sweep e = s.sweep e := by cases e <;> rfl
@[simp] theorem State.withRstN_link (v : Bool) (l : LinkId) : (s.withRstN v).link l = s.link l := rfl
@[simp] theorem State.withRstN_params (v : Bool) : (s.withRstN v).params = s.params := rfl
@[simp] theorem State.withConsider_sweep (v : Bool) (e : EngineId) : (s.withConsider v).sweep e = s.sweep e := by cases e <;> rfl
@[simp] theorem State.withConsider_link (v : Bool) (l : LinkId) : (s.withConsider v).link l = s.link l := rfl
@[simp] theorem State.withConsider_params (v : Bool) : (s.withConsider v).params = s.params := rfl
@[simp] theorem State.withFreeCount_sweep (v : Nat) (e : EngineId) : (s.withFreeCount v).sweep e = s.sweep e := by cases e <;> rfl
@[simp] theorem State.withFreeCount_link (v : Nat) (l : LinkId) : (s.withFreeCount v).link l = s.link l := rfl
@[simp] theorem State.withFreeCount_params (v : Nat) : (s.withFreeCount v).params = s.params := rfl
@[simp] theorem State.nextDraw_sweep (e : EngineId) : s.nextDraw.sweep e = s.sweep e := by cases e <;> rfl
@[simp] theorem State.nextDraw_link (l : LinkId) : s.nextDraw.link l = s.link l := rfl
@[simp] theorem State.nextDraw_params : s.nextDraw.params = s.params := rfl
@[simp] theorem State.withSweep_link (e : EngineId) (v : Option Sweep) (l : LinkId) : (s.withSweep e v).link l = s.link l := by
  cases e <;> rfl
@[simp] theorem State.withSweep_params (e : EngineId) (v : Option Sweep) : (s.withSweep e v).params = s.params := by
  cases e <;> rfl
@[simp] theorem State.withLink_sweep (l : LinkId) (v : Link) (e : EngineId) : (s.withLink l v).sweep e = s.sweep e := by
  cases e <;> rfl
@[simp] theorem State.withLink_params (l : LinkId) (v : Link) : (s.withLink l v).params = s.params := rfl

end Sys2Proof.Machine
end

