-- ==== Sys2Proof/Laws/TableFrames.lean ====
section
/-! SUPPORT. What the operations of Machine/Ops.lean leave unchanged. -/

namespace Sys2Proof.Machine

/-- `State.modRecord` changes at most: table. -/
@[simp] theorem State.modRecord_frame (s : State) (slot : Nat) (f : Record → Record) :
    (s.modRecord slot f).poolFree = s.poolFree ∧ (s.modRecord slot f).epochCount = s.epochCount ∧
     (s.modRecord slot f).epoch = s.epoch ∧ (s.modRecord slot f).queue = s.queue ∧ (s.modRecord slot f).se0 = s.se0 ∧
     (s.modRecord slot f).se1 = s.se1 ∧ (s.modRecord slot f).aliases = s.aliases ∧ (s.modRecord slot f).links = s.links ∧
     (s.modRecord slot f).host = s.host ∧ (s.modRecord slot f).store = s.store ∧ (s.modRecord slot f).rstN = s.rstN ∧
     (s.modRecord slot f).considerDue = s.considerDue ∧ (s.modRecord slot f).freeCount = s.freeCount ∧
     (s.modRecord slot f).pending = s.pending ∧ (∀ i : EngineId, (s.modRecord slot f).sweep i = s.sweep i) ∧
     (∀ j : LinkId, (s.modRecord slot f).link j = s.link j) ∧ (s.modRecord slot f).params = s.params := by
  simp [State.modRecord]

/-- `State.setStanding` changes at most: table. -/
@[simp] theorem State.setStanding_frame (s : State) (slot : Nat) (st : Standing) :
    (s.setStanding slot st).poolFree = s.poolFree ∧ (s.setStanding slot st).epochCount = s.epochCount ∧
     (s.setStanding slot st).epoch = s.epoch ∧ (s.setStanding slot st).queue = s.queue ∧ (s.setStanding slot st).se0 = s.se0 ∧
     (s.setStanding slot st).se1 = s.se1 ∧ (s.setStanding slot st).aliases = s.aliases ∧
     (s.setStanding slot st).links = s.links ∧ (s.setStanding slot st).host = s.host ∧ (s.setStanding slot st).store = s.store ∧
     (s.setStanding slot st).rstN = s.rstN ∧ (s.setStanding slot st).considerDue = s.considerDue ∧
     (s.setStanding slot st).freeCount = s.freeCount ∧ (s.setStanding slot st).pending = s.pending ∧
     (∀ i : EngineId, (s.setStanding slot st).sweep i = s.sweep i) ∧ (∀ j : LinkId, (s.setStanding slot st).link j = s.link j) ∧
     (s.setStanding slot st).params = s.params := by
  simp [State.setStanding]

/-- `State.stamp` changes at most: table. -/
@[simp] theorem State.stamp_frame (s : State) (slot : Nat) :
    (s.stamp slot).poolFree = s.poolFree ∧ (s.stamp slot).epochCount = s.epochCount ∧ (s.stamp slot).epoch = s.epoch ∧
     (s.stamp slot).queue = s.queue ∧ (s.stamp slot).se0 = s.se0 ∧ (s.stamp slot).se1 = s.se1 ∧
     (s.stamp slot).aliases = s.aliases ∧ (s.stamp slot).links = s.links ∧ (s.stamp slot).host = s.host ∧
     (s.stamp slot).store = s.store ∧ (s.stamp slot).rstN = s.rstN ∧ (s.stamp slot).considerDue = s.considerDue ∧
     (s.stamp slot).freeCount = s.freeCount ∧ (s.stamp slot).pending = s.pending ∧
     (∀ i : EngineId, (s.stamp slot).sweep i = s.sweep i) ∧ (∀ j : LinkId, (s.stamp slot).link j = s.link j) ∧
     (s.stamp slot).params = s.params := by
  simp [State.stamp]

/-- `State.freeProfile` changes at most: table, poolFree. -/
@[simp] theorem State.freeProfile_frame (s : State) (slot : Nat) (r : Record) :
    (s.freeProfile slot r).epochCount = s.epochCount ∧ (s.freeProfile slot r).epoch = s.epoch ∧
     (s.freeProfile slot r).queue = s.queue ∧ (s.freeProfile slot r).se0 = s.se0 ∧ (s.freeProfile slot r).se1 = s.se1 ∧
     (s.freeProfile slot r).aliases = s.aliases ∧ (s.freeProfile slot r).links = s.links ∧
     (s.freeProfile slot r).host = s.host ∧ (s.freeProfile slot r).store = s.store ∧ (s.freeProfile slot r).rstN = s.rstN ∧
     (s.freeProfile slot r).considerDue = s.considerDue ∧ (s.freeProfile slot r).freeCount = s.freeCount ∧
     (s.freeProfile slot r).pending = s.pending ∧ (∀ i : EngineId, (s.freeProfile slot r).sweep i = s.sweep i) ∧
     (∀ j : LinkId, (s.freeProfile slot r).link j = s.link j) ∧ (s.freeProfile slot r).params = s.params := by
  simp [State.freeProfile]

/-- `State.emit` changes at most: host. -/
@[simp] theorem State.emit_frame (s : State) (n : Notice) :
    (s.emit n).table = s.table ∧ (s.emit n).poolFree = s.poolFree ∧ (s.emit n).epochCount = s.epochCount ∧
     (s.emit n).epoch = s.epoch ∧ (s.emit n).queue = s.queue ∧ (s.emit n).se0 = s.se0 ∧ (s.emit n).se1 = s.se1 ∧
     (s.emit n).aliases = s.aliases ∧ (s.emit n).links = s.links ∧ (s.emit n).store = s.store ∧ (s.emit n).rstN = s.rstN ∧
     (s.emit n).considerDue = s.considerDue ∧ (s.emit n).freeCount = s.freeCount ∧ (s.emit n).pending = s.pending ∧
     (∀ i : EngineId, (s.emit n).sweep i = s.sweep i) ∧ (∀ j : LinkId, (s.emit n).link j = s.link j) ∧
     (s.emit n).params = s.params := by
  simp only [State.emit]
  (repeat' split) <;> simp

end Sys2Proof.Machine
end

