-- ==== Sys2Proof/Laws/QueueFrames.lean ====
section
/-! SUPPORT. What the operations of Machine/Queue.lean leave unchanged. -/

namespace Sys2Proof.Machine

/-- `State.displace` changes at most: table, queue. -/
@[simp] theorem State.displace_frame (s : State) :
    (s.displace).poolFree = s.poolFree ∧ (s.displace).epochCount = s.epochCount ∧ (s.displace).epoch = s.epoch ∧
     (s.displace).se0 = s.se0 ∧ (s.displace).se1 = s.se1 ∧ (s.displace).aliases = s.aliases ∧ (s.displace).links = s.links ∧
     (s.displace).host = s.host ∧ (s.displace).store = s.store ∧ (s.displace).rstN = s.rstN ∧
     (s.displace).considerDue = s.considerDue ∧ (s.displace).freeCount = s.freeCount ∧ (s.displace).pending = s.pending ∧
     (∀ i : EngineId, (s.displace).sweep i = s.sweep i) ∧ (∀ j : LinkId, (s.displace).link j = s.link j) ∧
     (s.displace).params = s.params := by
  simp only [State.displace]
  (repeat' split) <;> simp

/-- `State.placeEntry` changes at most: table, queue, considerDue. -/
@[simp] theorem State.placeEntry_frame (s : State) (e : QEntry) :
    (s.placeEntry e).poolFree = s.poolFree ∧ (s.placeEntry e).epochCount = s.epochCount ∧ (s.placeEntry e).epoch = s.epoch ∧
     (s.placeEntry e).se0 = s.se0 ∧ (s.placeEntry e).se1 = s.se1 ∧ (s.placeEntry e).aliases = s.aliases ∧
     (s.placeEntry e).links = s.links ∧ (s.placeEntry e).host = s.host ∧ (s.placeEntry e).store = s.store ∧
     (s.placeEntry e).rstN = s.rstN ∧ (s.placeEntry e).freeCount = s.freeCount ∧ (s.placeEntry e).pending = s.pending ∧
     (∀ i : EngineId, (s.placeEntry e).sweep i = s.sweep i) ∧ (∀ j : LinkId, (s.placeEntry e).link j = s.link j) ∧
     (s.placeEntry e).params = s.params := by
  simp only [State.placeEntry]
  (repeat' split) <;> simp

/-- `State.join` changes at most: table, queue, considerDue. -/
@[simp] theorem State.join_frame (s : State) (e : QEntry) :
    ((s.join e).1).poolFree = s.poolFree ∧ ((s.join e).1).epochCount = s.epochCount ∧ ((s.join e).1).epoch = s.epoch ∧
     ((s.join e).1).se0 = s.se0 ∧ ((s.join e).1).se1 = s.se1 ∧ ((s.join e).1).aliases = s.aliases ∧
     ((s.join e).1).links = s.links ∧ ((s.join e).1).host = s.host ∧ ((s.join e).1).store = s.store ∧
     ((s.join e).1).rstN = s.rstN ∧ ((s.join e).1).freeCount = s.freeCount ∧ ((s.join e).1).pending = s.pending ∧
     (∀ i : EngineId, ((s.join e).1).sweep i = s.sweep i) ∧ (∀ j : LinkId, ((s.join e).1).link j = s.link j) ∧
     ((s.join e).1).params = s.params := by
  simp only [State.join]
  (repeat' split) <;> simp

/-- `State.offer` changes at most: table, queue, considerDue. -/
@[simp] theorem State.offer_frame (s : State) (slot : Nat) (key : Key) (cause : Cause) :
    ((s.offer slot key cause).1).poolFree = s.poolFree ∧ ((s.offer slot key cause).1).epochCount = s.epochCount ∧
     ((s.offer slot key cause).1).epoch = s.epoch ∧ ((s.offer slot key cause).1).se0 = s.se0 ∧
     ((s.offer slot key cause).1).se1 = s.se1 ∧ ((s.offer slot key cause).1).aliases = s.aliases ∧
     ((s.offer slot key cause).1).links = s.links ∧ ((s.offer slot key cause).1).host = s.host ∧
     ((s.offer slot key cause).1).store = s.store ∧ ((s.offer slot key cause).1).rstN = s.rstN ∧
     ((s.offer slot key cause).1).freeCount = s.freeCount ∧ ((s.offer slot key cause).1).pending = s.pending ∧
     (∀ i : EngineId, ((s.offer slot key cause).1).sweep i = s.sweep i) ∧
     (∀ j : LinkId, ((s.offer slot key cause).1).link j = s.link j) ∧ ((s.offer slot key cause).1).params = s.params := by
  simp only [State.offer]
  (repeat' split) <;> simp

/-- `State.waitAndOffer` changes at most: table, queue, considerDue. -/
@[simp] theorem State.waitAndOffer_frame (s : State) (slot : Nat) (key : Key) (cause : Cause) :
    ((s.waitAndOffer slot key cause).1).poolFree = s.poolFree ∧ ((s.waitAndOffer slot key cause).1).epochCount = s.epochCount ∧
     ((s.waitAndOffer slot key cause).1).epoch = s.epoch ∧ ((s.waitAndOffer slot key cause).1).se0 = s.se0 ∧
     ((s.waitAndOffer slot key cause).1).se1 = s.se1 ∧ ((s.waitAndOffer slot key cause).1).aliases = s.aliases ∧
     ((s.waitAndOffer slot key cause).1).links = s.links ∧ ((s.waitAndOffer slot key cause).1).host = s.host ∧
     ((s.waitAndOffer slot key cause).1).store = s.store ∧ ((s.waitAndOffer slot key cause).1).rstN = s.rstN ∧
     ((s.waitAndOffer slot key cause).1).freeCount = s.freeCount ∧ ((s.waitAndOffer slot key cause).1).pending = s.pending ∧
     (∀ i : EngineId, ((s.waitAndOffer slot key cause).1).sweep i = s.sweep i) ∧
     (∀ j : LinkId, ((s.waitAndOffer slot key cause).1).link j = s.link j) ∧
     ((s.waitAndOffer slot key cause).1).params = s.params := by
  simp [State.waitAndOffer]

/-- `State.promote` changes at most: table, queue. -/
@[simp] theorem State.promote_frame (s : State) (slot : Nat) (key : Key) :
    (s.promote slot key).poolFree = s.poolFree ∧ (s.promote slot key).epochCount = s.epochCount ∧
     (s.promote slot key).epoch = s.epoch ∧ (s.promote slot key).se0 = s.se0 ∧ (s.promote slot key).se1 = s.se1 ∧
     (s.promote slot key).aliases = s.aliases ∧ (s.promote slot key).links = s.links ∧ (s.promote slot key).host = s.host ∧
     (s.promote slot key).store = s.store ∧ (s.promote slot key).rstN = s.rstN ∧
     (s.promote slot key).considerDue = s.considerDue ∧ (s.promote slot key).freeCount = s.freeCount ∧
     (s.promote slot key).pending = s.pending ∧ (∀ i : EngineId, (s.promote slot key).sweep i = s.sweep i) ∧
     (∀ j : LinkId, (s.promote slot key).link j = s.link j) ∧ (s.promote slot key).params = s.params := by
  simp [State.promote]

/-- `State.mark` changes at most: table, queue, considerDue. -/
@[simp] theorem State.mark_frame (s : State) (m : Marker) (slot : Nat) (r : Record) :
    ((s.mark m slot r).1).poolFree = s.poolFree ∧ ((s.mark m slot r).1).epochCount = s.epochCount ∧
     ((s.mark m slot r).1).epoch = s.epoch ∧ ((s.mark m slot r).1).se0 = s.se0 ∧ ((s.mark m slot r).1).se1 = s.se1 ∧
     ((s.mark m slot r).1).aliases = s.aliases ∧ ((s.mark m slot r).1).links = s.links ∧ ((s.mark m slot r).1).host = s.host ∧
     ((s.mark m slot r).1).store = s.store ∧ ((s.mark m slot r).1).rstN = s.rstN ∧
     ((s.mark m slot r).1).freeCount = s.freeCount ∧ ((s.mark m slot r).1).pending = s.pending ∧
     (∀ i : EngineId, ((s.mark m slot r).1).sweep i = s.sweep i) ∧ (∀ j : LinkId, ((s.mark m slot r).1).link j = s.link j) ∧
     ((s.mark m slot r).1).params = s.params := by
  simp only [State.mark]
  (repeat' split) <;> simp

/-- `State.markAlert` changes at most: table, queue, considerDue. -/
@[simp] theorem State.markAlert_frame (s : State) (slot : Nat) (r : Record) :
    ((s.markAlert slot r).1).poolFree = s.poolFree ∧ ((s.markAlert slot r).1).epochCount = s.epochCount ∧
     ((s.markAlert slot r).1).epoch = s.epoch ∧ ((s.markAlert slot r).1).se0 = s.se0 ∧ ((s.markAlert slot r).1).se1 = s.se1 ∧
     ((s.markAlert slot r).1).aliases = s.aliases ∧ ((s.markAlert slot r).1).links = s.links ∧
     ((s.markAlert slot r).1).host = s.host ∧ ((s.markAlert slot r).1).store = s.store ∧
     ((s.markAlert slot r).1).rstN = s.rstN ∧ ((s.markAlert slot r).1).freeCount = s.freeCount ∧
     ((s.markAlert slot r).1).pending = s.pending ∧ (∀ i : EngineId, ((s.markAlert slot r).1).sweep i = s.sweep i) ∧
     (∀ j : LinkId, ((s.markAlert slot r).1).link j = s.link j) ∧ ((s.markAlert slot r).1).params = s.params := by
  simp [State.markAlert]

/-- A marking pass changes at most what each of its markings changes: queue, table, considerDue. -/
theorem State.markPass_frame (mark : State → Nat → Record → State × Option RefreshAction)
    (h : ∀ s slot r, ∃ q t c, (mark s slot r).1 = ((s.withQueue q).withTable t).withConsider c) (slots : List Nat) (s : State) :
    ∃ q t c, (s.markPass mark slots).1 = ((s.withQueue q).withTable t).withConsider c := by
  induction slots generalizing s with
  | nil => exact ⟨s.queue, s.table, s.considerDue, rfl⟩
  | cons slot rest ih =>
    simp only [State.markPass]
    split
    · exact ih s
    · rename_i r _
      obtain ⟨q, t, c, e⟩ := h s slot r
      obtain ⟨q', t', c', e'⟩ := ih (mark s slot r).1
      exact ⟨q', t', c', by rw [e', e]; rfl⟩

/-- A marking changes at most queue, table, considerDue. -/
theorem State.mark_shape (m : Marker) (s : State) (slot : Nat) (r : Record) :
    ∃ q t c, (s.mark m slot r).1 = ((s.withQueue q).withTable t).withConsider c :=
  ⟨(s.mark m slot r).1.queue, (s.mark m slot r).1.table, (s.mark m slot r).1.considerDue, by
    have h := State.mark_frame s m slot r
    generalize (s.mark m slot r).1 = t at h
    cases t; cases s; simp_all [State.withQueue, State.withTable, State.withConsider]⟩

/-- A marking of a drift alert changes at most queue, table, considerDue. -/
theorem State.markAlert_shape (s : State) (slot : Nat) (r : Record) :
    ∃ q t c, (s.markAlert slot r).1 = ((s.withQueue q).withTable t).withConsider c :=
  ⟨(s.markAlert slot r).1.queue, (s.markAlert slot r).1.table, (s.markAlert slot r).1.considerDue, by
    have h := State.markAlert_frame s slot r
    generalize (s.markAlert slot r).1 = t at h
    cases t; cases s; simp_all [State.withQueue, State.withTable, State.withConsider]⟩

/-- `State.offerPass` changes at most: table, queue, considerDue. -/
@[simp] theorem State.offerPass_frame (s : State) (slots : List Nat) :
    (s.offerPass slots).poolFree = s.poolFree ∧ (s.offerPass slots).epochCount = s.epochCount ∧
     (s.offerPass slots).epoch = s.epoch ∧ (s.offerPass slots).se0 = s.se0 ∧ (s.offerPass slots).se1 = s.se1 ∧
     (s.offerPass slots).aliases = s.aliases ∧ (s.offerPass slots).links = s.links ∧ (s.offerPass slots).host = s.host ∧
     (s.offerPass slots).store = s.store ∧ (s.offerPass slots).rstN = s.rstN ∧ (s.offerPass slots).freeCount = s.freeCount ∧
     (s.offerPass slots).pending = s.pending ∧ (∀ i : EngineId, (s.offerPass slots).sweep i = s.sweep i) ∧
     (∀ j : LinkId, (s.offerPass slots).link j = s.link j) ∧ (s.offerPass slots).params = s.params := by
  induction slots generalizing s with
  | nil => simp [State.offerPass]
  | cons slot rest ih =>
    simp only [State.offerPass]
    (repeat' split) <;> simp [ih]

/-- `State.dispatchEntry` changes at most: table, queue, se0, se1. -/
@[simp] theorem State.dispatchEntry_frame (s : State) (e : EngineId) (q : QEntry) :
    (s.dispatchEntry e q).poolFree = s.poolFree ∧ (s.dispatchEntry e q).epochCount = s.epochCount ∧
     (s.dispatchEntry e q).epoch = s.epoch ∧ (s.dispatchEntry e q).aliases = s.aliases ∧ (s.dispatchEntry e q).links = s.links ∧
     (s.dispatchEntry e q).host = s.host ∧ (s.dispatchEntry e q).store = s.store ∧ (s.dispatchEntry e q).rstN = s.rstN ∧
     (s.dispatchEntry e q).considerDue = s.considerDue ∧ (s.dispatchEntry e q).freeCount = s.freeCount ∧
     (s.dispatchEntry e q).pending = s.pending ∧ (∀ j : LinkId, (s.dispatchEntry e q).link j = s.link j) ∧
     (s.dispatchEntry e q).params = s.params := by
  simp [State.dispatchEntry]

/-- `State.offerDispatch` changes at most: table, queue, se0, se1. -/
@[simp] theorem State.offerDispatch_frame (s : State) (e : EngineId) :
    (s.offerDispatch e).poolFree = s.poolFree ∧ (s.offerDispatch e).epochCount = s.epochCount ∧
     (s.offerDispatch e).epoch = s.epoch ∧ (s.offerDispatch e).aliases = s.aliases ∧ (s.offerDispatch e).links = s.links ∧
     (s.offerDispatch e).host = s.host ∧ (s.offerDispatch e).store = s.store ∧ (s.offerDispatch e).rstN = s.rstN ∧
     (s.offerDispatch e).considerDue = s.considerDue ∧ (s.offerDispatch e).freeCount = s.freeCount ∧
     (s.offerDispatch e).pending = s.pending ∧ (∀ j : LinkId, (s.offerDispatch e).link j = s.link j) ∧
     (s.offerDispatch e).params = s.params := by
  simp only [State.offerDispatch]
  (repeat' split) <;> simp

/-- `State.consider` changes at most: table, queue, se0, se1, considerDue. -/
@[simp] theorem State.consider_frame (s : State) :
    (s.consider).poolFree = s.poolFree ∧ (s.consider).epochCount = s.epochCount ∧ (s.consider).epoch = s.epoch ∧
     (s.consider).aliases = s.aliases ∧ (s.consider).links = s.links ∧ (s.consider).host = s.host ∧
     (s.consider).store = s.store ∧ (s.consider).rstN = s.rstN ∧ (s.consider).freeCount = s.freeCount ∧
     (s.consider).pending = s.pending ∧ (∀ j : LinkId, (s.consider).link j = s.link j) ∧ (s.consider).params = s.params := by
  simp [State.consider]

end Sys2Proof.Machine
end

