-- ==== Sys2Proof/Laws/LinksFrames.lean ====
section
/-! SUPPORT. What the operations of Machine/Links.lean leave unchanged. -/

namespace Sys2Proof.Machine

/-- `State.removeOut` changes at most: links. -/
@[simp] theorem State.removeOut_frame (s : State) (l : LinkId) (p : OutMsg → Bool) :
    (s.removeOut l p).table = s.table ∧ (s.removeOut l p).poolFree = s.poolFree ∧ (s.removeOut l p).epochCount = s.epochCount ∧
     (s.removeOut l p).epoch = s.epoch ∧ (s.removeOut l p).queue = s.queue ∧ (s.removeOut l p).se0 = s.se0 ∧
     (s.removeOut l p).se1 = s.se1 ∧ (s.removeOut l p).aliases = s.aliases ∧ (s.removeOut l p).host = s.host ∧
     (s.removeOut l p).store = s.store ∧ (s.removeOut l p).rstN = s.rstN ∧ (s.removeOut l p).considerDue = s.considerDue ∧
     (s.removeOut l p).freeCount = s.freeCount ∧ (s.removeOut l p).pending = s.pending ∧ (∀ i : EngineId, (s.removeOut l p).sweep i = s.sweep i) ∧
     (s.removeOut l p).params = s.params := by
  simp only [State.removeOut]
  (repeat' split) <;> simp

/-- `State.makeRequest` changes at most: se0, se1, links. -/
@[simp] theorem State.makeRequest_frame (s : State) (e : EngineId) (w : Sweep) :
    (s.makeRequest e w).table = s.table ∧ (s.makeRequest e w).poolFree = s.poolFree ∧
     (s.makeRequest e w).epochCount = s.epochCount ∧ (s.makeRequest e w).epoch = s.epoch ∧ (s.makeRequest e w).queue = s.queue ∧
     (s.makeRequest e w).aliases = s.aliases ∧ (s.makeRequest e w).host = s.host ∧ (s.makeRequest e w).store = s.store ∧
     (s.makeRequest e w).rstN = s.rstN ∧ (s.makeRequest e w).considerDue = s.considerDue ∧
     (s.makeRequest e w).freeCount = s.freeCount ∧ (s.makeRequest e w).pending = s.pending ∧
     (s.makeRequest e w).params = s.params := by
  simp [State.makeRequest]

/-- `State.startRun` changes at most: se0, se1, links. -/
@[simp] theorem State.startRun_frame (s : State) (e : EngineId) (w : Sweep) :
    (s.startRun e w).table = s.table ∧ (s.startRun e w).poolFree = s.poolFree ∧ (s.startRun e w).epochCount = s.epochCount ∧
     (s.startRun e w).epoch = s.epoch ∧ (s.startRun e w).queue = s.queue ∧ (s.startRun e w).aliases = s.aliases ∧
     (s.startRun e w).host = s.host ∧ (s.startRun e w).store = s.store ∧ (s.startRun e w).rstN = s.rstN ∧
     (s.startRun e w).considerDue = s.considerDue ∧ (s.startRun e w).freeCount = s.freeCount ∧
     (s.startRun e w).pending = s.pending ∧ (s.startRun e w).params = s.params := by
  simp [State.startRun]

/-- `State.clearEngine` changes at most: se0, se1, links, considerDue. -/
@[simp] theorem State.clearEngine_frame (s : State) (e : EngineId) (w : Sweep) :
    (s.clearEngine e w).table = s.table ∧ (s.clearEngine e w).poolFree = s.poolFree ∧
     (s.clearEngine e w).epochCount = s.epochCount ∧ (s.clearEngine e w).epoch = s.epoch ∧ (s.clearEngine e w).queue = s.queue ∧
     (s.clearEngine e w).aliases = s.aliases ∧ (s.clearEngine e w).host = s.host ∧ (s.clearEngine e w).store = s.store ∧
     (s.clearEngine e w).rstN = s.rstN ∧ (s.clearEngine e w).freeCount = s.freeCount ∧ (s.clearEngine e w).pending = s.pending ∧
     (s.clearEngine e w).params = s.params := by
  simp [State.clearEngine]

/-- `State.stopEngine` changes at most: se0, se1, links, considerDue, freeCount. -/
@[simp] theorem State.stopEngine_frame (s : State) (e : EngineId) (w : Sweep) :
    (s.stopEngine e w).table = s.table ∧ (s.stopEngine e w).poolFree = s.poolFree ∧
     (s.stopEngine e w).epochCount = s.epochCount ∧ (s.stopEngine e w).epoch = s.epoch ∧ (s.stopEngine e w).queue = s.queue ∧
     (s.stopEngine e w).aliases = s.aliases ∧ (s.stopEngine e w).host = s.host ∧ (s.stopEngine e w).store = s.store ∧
     (s.stopEngine e w).rstN = s.rstN ∧ (s.stopEngine e w).pending = s.pending ∧ (s.stopEngine e w).params = s.params := by
  simp [State.stopEngine]

/-- `State.takeCommit` changes at most: table, poolFree. -/
@[simp] theorem State.takeCommit_frame (s : State) (slot : Nat) (r : Record) (v : Values) (w : Sweep) :
    (s.takeCommit slot r v w).epochCount = s.epochCount ∧ (s.takeCommit slot r v w).epoch = s.epoch ∧
     (s.takeCommit slot r v w).queue = s.queue ∧ (s.takeCommit slot r v w).se0 = s.se0 ∧ (s.takeCommit slot r v w).se1 = s.se1 ∧
     (s.takeCommit slot r v w).aliases = s.aliases ∧ (s.takeCommit slot r v w).links = s.links ∧
     (s.takeCommit slot r v w).host = s.host ∧ (s.takeCommit slot r v w).store = s.store ∧
     (s.takeCommit slot r v w).rstN = s.rstN ∧ (s.takeCommit slot r v w).considerDue = s.considerDue ∧
     (s.takeCommit slot r v w).freeCount = s.freeCount ∧ (s.takeCommit slot r v w).pending = s.pending ∧
     (∀ i : EngineId, (s.takeCommit slot r v w).sweep i = s.sweep i) ∧
     (∀ j : LinkId, (s.takeCommit slot r v w).link j = s.link j) ∧ (s.takeCommit slot r v w).params = s.params := by
  simp only [State.takeCommit]
  (repeat' split) <;> simp

/-- `State.endCommitted` changes at most: table, poolFree, se0, se1, links, host, considerDue. -/
@[simp] theorem State.endCommitted_frame (s : State) (e : EngineId) (w : Sweep) (v : Values) :
    (s.endCommitted e w v).epochCount = s.epochCount ∧ (s.endCommitted e w v).epoch = s.epoch ∧
     (s.endCommitted e w v).queue = s.queue ∧ (s.endCommitted e w v).aliases = s.aliases ∧
     (s.endCommitted e w v).store = s.store ∧ (s.endCommitted e w v).rstN = s.rstN ∧
     (s.endCommitted e w v).freeCount = s.freeCount ∧ (s.endCommitted e w v).pending = s.pending ∧
     (s.endCommitted e w v).params = s.params := by
  simp only [State.endCommitted]
  (repeat' split) <;> simp

/-- `State.takeFailure` changes at most: table, queue, host, considerDue. -/
@[simp] theorem State.takeFailure_frame (s : State) (slot : Nat) (r : Record) (reason : FailReason) :
    (s.takeFailure slot r reason).poolFree = s.poolFree ∧ (s.takeFailure slot r reason).epochCount = s.epochCount ∧
     (s.takeFailure slot r reason).epoch = s.epoch ∧ (s.takeFailure slot r reason).se0 = s.se0 ∧
     (s.takeFailure slot r reason).se1 = s.se1 ∧ (s.takeFailure slot r reason).aliases = s.aliases ∧
     (s.takeFailure slot r reason).links = s.links ∧ (s.takeFailure slot r reason).store = s.store ∧
     (s.takeFailure slot r reason).rstN = s.rstN ∧ (s.takeFailure slot r reason).freeCount = s.freeCount ∧
     (s.takeFailure slot r reason).pending = s.pending ∧ (∀ i : EngineId, (s.takeFailure slot r reason).sweep i = s.sweep i) ∧
     (∀ j : LinkId, (s.takeFailure slot r reason).link j = s.link j) ∧ (s.takeFailure slot r reason).params = s.params := by
  simp only [State.takeFailure]
  (repeat' split) <;> simp

/-- `State.endFailed` changes at most: table, queue, se0, se1, links, host, considerDue. -/
@[simp] theorem State.endFailed_frame (s : State) (e : EngineId) (w : Sweep) (reason : FailReason) :
    (s.endFailed e w reason).poolFree = s.poolFree ∧ (s.endFailed e w reason).epochCount = s.epochCount ∧
     (s.endFailed e w reason).epoch = s.epoch ∧ (s.endFailed e w reason).aliases = s.aliases ∧
     (s.endFailed e w reason).store = s.store ∧ (s.endFailed e w reason).rstN = s.rstN ∧
     (s.endFailed e w reason).freeCount = s.freeCount ∧ (s.endFailed e w reason).pending = s.pending ∧
     (s.endFailed e w reason).params = s.params := by
  simp only [State.endFailed]
  (repeat' split) <;> simp

/-- `State.endLinkFailed` changes at most: table, queue, se0, se1, links, host, considerDue, freeCount. -/
@[simp] theorem State.endLinkFailed_frame (s : State) (e : EngineId) (w : Sweep) :
    (s.endLinkFailed e w).poolFree = s.poolFree ∧ (s.endLinkFailed e w).epochCount = s.epochCount ∧
     (s.endLinkFailed e w).epoch = s.epoch ∧ (s.endLinkFailed e w).aliases = s.aliases ∧ (s.endLinkFailed e w).store = s.store ∧
     (s.endLinkFailed e w).rstN = s.rstN ∧ (s.endLinkFailed e w).pending = s.pending ∧ (s.endLinkFailed e w).params = s.params := by
  simp [State.endLinkFailed]

/-- `State.endStopped` changes at most: se0, se1, links, host, considerDue, freeCount. -/
@[simp] theorem State.endStopped_frame (s : State) (e : EngineId) (w : Sweep) (outcome : SweepOutcome) :
    (s.endStopped e w outcome).table = s.table ∧ (s.endStopped e w outcome).poolFree = s.poolFree ∧
     (s.endStopped e w outcome).epochCount = s.epochCount ∧ (s.endStopped e w outcome).epoch = s.epoch ∧
     (s.endStopped e w outcome).queue = s.queue ∧ (s.endStopped e w outcome).aliases = s.aliases ∧
     (s.endStopped e w outcome).store = s.store ∧ (s.endStopped e w outcome).rstN = s.rstN ∧
     (s.endStopped e w outcome).pending = s.pending ∧ (s.endStopped e w outcome).params = s.params := by
  simp [State.endStopped]

/-- `State.withdraw` changes at most: queue, se0, se1, links, host, considerDue, freeCount. -/
@[simp] theorem State.withdraw_frame (s : State) (slot : Nat) (r : Record) (outcome : SweepOutcome) :
    (s.withdraw slot r outcome).table = s.table ∧ (s.withdraw slot r outcome).poolFree = s.poolFree ∧
     (s.withdraw slot r outcome).epochCount = s.epochCount ∧ (s.withdraw slot r outcome).epoch = s.epoch ∧
     (s.withdraw slot r outcome).aliases = s.aliases ∧ (s.withdraw slot r outcome).store = s.store ∧
     (s.withdraw slot r outcome).rstN = s.rstN ∧ (s.withdraw slot r outcome).pending = s.pending ∧
     (s.withdraw slot r outcome).params = s.params := by
  simp only [State.withdraw]
  (repeat' split) <;> simp

/-- `State.computeAndEnd` changes at most: table, poolFree, queue, se0, se1, links, host, considerDue. -/
@[simp] theorem State.computeAndEnd_frame (s : State) (e : EngineId) (w : Sweep) :
    (s.computeAndEnd e w).epochCount = s.epochCount ∧ (s.computeAndEnd e w).epoch = s.epoch ∧
     (s.computeAndEnd e w).aliases = s.aliases ∧ (s.computeAndEnd e w).store = s.store ∧ (s.computeAndEnd e w).rstN = s.rstN ∧
     (s.computeAndEnd e w).freeCount = s.freeCount ∧ (s.computeAndEnd e w).pending = s.pending ∧
     (s.computeAndEnd e w).params = s.params := by
  simp only [State.computeAndEnd]
  (repeat' split) <;> simp

/-- `State.enterDown` changes at most: links. -/
@[simp] theorem State.enterDown_frame (s : State) (l : LinkId) :
    (s.enterDown l).table = s.table ∧ (s.enterDown l).poolFree = s.poolFree ∧ (s.enterDown l).epochCount = s.epochCount ∧
     (s.enterDown l).epoch = s.epoch ∧ (s.enterDown l).queue = s.queue ∧ (s.enterDown l).se0 = s.se0 ∧
     (s.enterDown l).se1 = s.se1 ∧ (s.enterDown l).aliases = s.aliases ∧ (s.enterDown l).host = s.host ∧
     (s.enterDown l).store = s.store ∧ (s.enterDown l).rstN = s.rstN ∧ (s.enterDown l).considerDue = s.considerDue ∧
     (s.enterDown l).freeCount = s.freeCount ∧ (s.enterDown l).pending = s.pending ∧
     (∀ i : EngineId, (s.enterDown l).sweep i = s.sweep i) ∧ (s.enterDown l).params = s.params := by
  simp [State.enterDown]

/-- `State.departUp` changes at most: links, host, freeCount. -/
@[simp] theorem State.departUp_frame (s : State) (l : LinkId) (reason : LinkReason) :
    (s.departUp l reason).table = s.table ∧ (s.departUp l reason).poolFree = s.poolFree ∧
     (s.departUp l reason).epochCount = s.epochCount ∧ (s.departUp l reason).epoch = s.epoch ∧
     (s.departUp l reason).queue = s.queue ∧ (s.departUp l reason).se0 = s.se0 ∧ (s.departUp l reason).se1 = s.se1 ∧
     (s.departUp l reason).aliases = s.aliases ∧ (s.departUp l reason).store = s.store ∧ (s.departUp l reason).rstN = s.rstN ∧
     (s.departUp l reason).considerDue = s.considerDue ∧ (s.departUp l reason).pending = s.pending ∧
     (∀ i : EngineId, (s.departUp l reason).sweep i = s.sweep i) ∧ (s.departUp l reason).params = s.params := by
  simp [State.departUp]

/-- `State.leaveUp` changes at most: table, queue, se0, se1, links, host, considerDue, freeCount. -/
@[simp] theorem State.leaveUp_frame (s : State) (l : LinkId) (reason : LinkReason) :
    (s.leaveUp l reason).poolFree = s.poolFree ∧ (s.leaveUp l reason).epochCount = s.epochCount ∧
     (s.leaveUp l reason).epoch = s.epoch ∧ (s.leaveUp l reason).aliases = s.aliases ∧ (s.leaveUp l reason).store = s.store ∧
     (s.leaveUp l reason).rstN = s.rstN ∧ (s.leaveUp l reason).pending = s.pending ∧ (s.leaveUp l reason).params = s.params := by
  simp only [State.leaveUp]
  (repeat' split) <;> simp

/-- `State.protocolFault` changes at most: table, queue, se0, se1, links, host, considerDue, freeCount. -/
@[simp] theorem State.protocolFault_frame (s : State) (l : LinkId) :
    (s.protocolFault l).poolFree = s.poolFree ∧ (s.protocolFault l).epochCount = s.epochCount ∧
     (s.protocolFault l).epoch = s.epoch ∧ (s.protocolFault l).aliases = s.aliases ∧ (s.protocolFault l).store = s.store ∧
     (s.protocolFault l).rstN = s.rstN ∧ (s.protocolFault l).pending = s.pending ∧ (s.protocolFault l).params = s.params := by
  simp only [State.protocolFault]
  (repeat' split) <;> simp

end Sys2Proof.Machine
end

