-- ==== Sys2Proof/Laws/RequestsFrames.lean ====
section
/-! SUPPORT. What the operations of the host requests leave unchanged. -/

namespace Sys2Proof.Machine

/-- `State.createRecord` changes at most: table, queue, considerDue. -/
@[simp] theorem State.createRecord_frame (s : State) (slot : Nat) (r : Record) :
    (s.createRecord slot r).poolFree = s.poolFree ∧ (s.createRecord slot r).epochCount = s.epochCount ∧
     (s.createRecord slot r).epoch = s.epoch ∧ (s.createRecord slot r).se0 = s.se0 ∧ (s.createRecord slot r).se1 = s.se1 ∧
     (s.createRecord slot r).aliases = s.aliases ∧ (s.createRecord slot r).links = s.links ∧
     (s.createRecord slot r).host = s.host ∧ (s.createRecord slot r).store = s.store ∧ (s.createRecord slot r).rstN = s.rstN ∧
     (s.createRecord slot r).freeCount = s.freeCount ∧ (s.createRecord slot r).pending = s.pending ∧
     (∀ i : EngineId, (s.createRecord slot r).sweep i = s.sweep i) ∧ (∀ j : LinkId, (s.createRecord slot r).link j = s.link j) ∧
     (s.createRecord slot r).params = s.params := by
  simp only [State.createRecord]
  (repeat' split) <;> simp

/-- `State.removeRecord` changes at most: table, poolFree. -/
@[simp] theorem State.removeRecord_frame (s : State) (slot : Nat) (r : Record) :
    (s.removeRecord slot r).epochCount = s.epochCount ∧ (s.removeRecord slot r).epoch = s.epoch ∧
     (s.removeRecord slot r).queue = s.queue ∧ (s.removeRecord slot r).se0 = s.se0 ∧ (s.removeRecord slot r).se1 = s.se1 ∧
     (s.removeRecord slot r).aliases = s.aliases ∧ (s.removeRecord slot r).links = s.links ∧
     (s.removeRecord slot r).host = s.host ∧ (s.removeRecord slot r).store = s.store ∧ (s.removeRecord slot r).rstN = s.rstN ∧
     (s.removeRecord slot r).considerDue = s.considerDue ∧ (s.removeRecord slot r).freeCount = s.freeCount ∧
     (s.removeRecord slot r).pending = s.pending ∧ (∀ i : EngineId, (s.removeRecord slot r).sweep i = s.sweep i) ∧
     (∀ j : LinkId, (s.removeRecord slot r).link j = s.link j) ∧ (s.removeRecord slot r).params = s.params := by
  simp [State.removeRecord]

/-- `State.makeFixed` changes at most: table, queue, se0, se1, links, host, considerDue, freeCount. -/
@[simp] theorem State.makeFixed_frame (s : State) (slot : Nat) (r : Record) (pin : Bool) :
    (s.makeFixed slot r pin).poolFree = s.poolFree ∧ (s.makeFixed slot r pin).epochCount = s.epochCount ∧
     (s.makeFixed slot r pin).epoch = s.epoch ∧ (s.makeFixed slot r pin).aliases = s.aliases ∧
     (s.makeFixed slot r pin).store = s.store ∧ (s.makeFixed slot r pin).rstN = s.rstN ∧
     (s.makeFixed slot r pin).pending = s.pending ∧ (s.makeFixed slot r pin).params = s.params := by
  simp [State.makeFixed]

/-- `State.makeAuto` changes at most: table, queue, considerDue. -/
@[simp] theorem State.makeAuto_frame (s : State) (slot : Nat) (r : Record) (pin : Bool) :
    (s.makeAuto slot r pin).poolFree = s.poolFree ∧ (s.makeAuto slot r pin).epochCount = s.epochCount ∧
     (s.makeAuto slot r pin).epoch = s.epoch ∧ (s.makeAuto slot r pin).se0 = s.se0 ∧ (s.makeAuto slot r pin).se1 = s.se1 ∧
     (s.makeAuto slot r pin).aliases = s.aliases ∧ (s.makeAuto slot r pin).links = s.links ∧
     (s.makeAuto slot r pin).host = s.host ∧ (s.makeAuto slot r pin).store = s.store ∧ (s.makeAuto slot r pin).rstN = s.rstN ∧
     (s.makeAuto slot r pin).freeCount = s.freeCount ∧ (s.makeAuto slot r pin).pending = s.pending ∧
     (∀ i : EngineId, (s.makeAuto slot r pin).sweep i = s.sweep i) ∧ (∀ j : LinkId, (s.makeAuto slot r pin).link j = s.link j) ∧
     (s.makeAuto slot r pin).params = s.params := by
  simp only [State.makeAuto]
  (repeat' split) <;> simp

/-- `State.setPolicyClaim` changes at most: table, queue, se0, se1, links, host, considerDue, freeCount. -/
@[simp] theorem State.setPolicyClaim_frame (s : State) (slot : Nat) (r : Record) (policy : Policy) (pin : Bool) :
    (s.setPolicyClaim slot r policy pin).poolFree = s.poolFree ∧
     (s.setPolicyClaim slot r policy pin).epochCount = s.epochCount ∧ (s.setPolicyClaim slot r policy pin).epoch = s.epoch ∧
     (s.setPolicyClaim slot r policy pin).aliases = s.aliases ∧ (s.setPolicyClaim slot r policy pin).store = s.store ∧
     (s.setPolicyClaim slot r policy pin).rstN = s.rstN ∧ (s.setPolicyClaim slot r policy pin).pending = s.pending ∧
     (s.setPolicyClaim slot r policy pin).params = s.params := by
  simp only [State.setPolicyClaim]
  (repeat' split) <;> simp

/-- `State.refreshClaim` changes at most: table, queue, considerDue. -/
@[simp] theorem State.refreshClaim_frame (s : State) (slot : Nat) (r : Record) :
    ((s.refreshClaim slot r).1).poolFree = s.poolFree ∧ ((s.refreshClaim slot r).1).epochCount = s.epochCount ∧
     ((s.refreshClaim slot r).1).epoch = s.epoch ∧ ((s.refreshClaim slot r).1).se0 = s.se0 ∧
     ((s.refreshClaim slot r).1).se1 = s.se1 ∧ ((s.refreshClaim slot r).1).aliases = s.aliases ∧
     ((s.refreshClaim slot r).1).links = s.links ∧ ((s.refreshClaim slot r).1).host = s.host ∧
     ((s.refreshClaim slot r).1).store = s.store ∧ ((s.refreshClaim slot r).1).rstN = s.rstN ∧
     ((s.refreshClaim slot r).1).freeCount = s.freeCount ∧ ((s.refreshClaim slot r).1).pending = s.pending ∧
     (∀ i : EngineId, ((s.refreshClaim slot r).1).sweep i = s.sweep i) ∧
     (∀ j : LinkId, ((s.refreshClaim slot r).1).link j = s.link j) ∧ ((s.refreshClaim slot r).1).params = s.params := by
  simp only [State.refreshClaim]
  (repeat' split) <;> simp

/-- `State.moveIntervals` changes at most: table. -/
@[simp] theorem State.moveIntervals_frame (s : State) (id : ParamId) (v : Nat) :
    (s.moveIntervals id v).poolFree = s.poolFree ∧ (s.moveIntervals id v).epochCount = s.epochCount ∧
     (s.moveIntervals id v).epoch = s.epoch ∧ (s.moveIntervals id v).queue = s.queue ∧ (s.moveIntervals id v).se0 = s.se0 ∧
     (s.moveIntervals id v).se1 = s.se1 ∧ (s.moveIntervals id v).aliases = s.aliases ∧ (s.moveIntervals id v).links = s.links ∧
     (s.moveIntervals id v).host = s.host ∧ (s.moveIntervals id v).store = s.store ∧ (s.moveIntervals id v).rstN = s.rstN ∧
     (s.moveIntervals id v).considerDue = s.considerDue ∧ (s.moveIntervals id v).freeCount = s.freeCount ∧
     (s.moveIntervals id v).pending = s.pending ∧ (∀ i : EngineId, (s.moveIntervals id v).sweep i = s.sweep i) ∧
     (∀ j : LinkId, (s.moveIntervals id v).link j = s.link j) ∧ (s.moveIntervals id v).params = s.params := by
  simp only [State.moveIntervals]
  (repeat' split) <;> simp

/-- `State.enableLink` changes at most: store. -/
@[simp] theorem State.enableLink_frame (s : State) (l : LinkId) (v : Bool) :
    (s.enableLink l v).table = s.table ∧ (s.enableLink l v).poolFree = s.poolFree ∧
     (s.enableLink l v).epochCount = s.epochCount ∧ (s.enableLink l v).epoch = s.epoch ∧ (s.enableLink l v).queue = s.queue ∧
     (s.enableLink l v).se0 = s.se0 ∧ (s.enableLink l v).se1 = s.se1 ∧ (s.enableLink l v).aliases = s.aliases ∧
     (s.enableLink l v).links = s.links ∧ (s.enableLink l v).host = s.host ∧ (s.enableLink l v).rstN = s.rstN ∧
     (s.enableLink l v).considerDue = s.considerDue ∧ (s.enableLink l v).freeCount = s.freeCount ∧
     (s.enableLink l v).pending = s.pending ∧ (∀ i : EngineId, (s.enableLink l v).sweep i = s.sweep i) ∧
     (∀ j : LinkId, (s.enableLink l v).link j = s.link j) := by
  simp [State.enableLink]

/-- `State.waitAll` changes at most: table. -/
@[simp] theorem State.waitAll_frame (s : State) (entries : List QEntry) :
    (s.waitAll entries).poolFree = s.poolFree ∧ (s.waitAll entries).epochCount = s.epochCount ∧
     (s.waitAll entries).epoch = s.epoch ∧ (s.waitAll entries).queue = s.queue ∧ (s.waitAll entries).se0 = s.se0 ∧
     (s.waitAll entries).se1 = s.se1 ∧ (s.waitAll entries).aliases = s.aliases ∧ (s.waitAll entries).links = s.links ∧
     (s.waitAll entries).host = s.host ∧ (s.waitAll entries).store = s.store ∧ (s.waitAll entries).rstN = s.rstN ∧
     (s.waitAll entries).considerDue = s.considerDue ∧ (s.waitAll entries).freeCount = s.freeCount ∧
     (s.waitAll entries).pending = s.pending ∧ (∀ i : EngineId, (s.waitAll entries).sweep i = s.sweep i) ∧
     (∀ j : LinkId, (s.waitAll entries).link j = s.link j) ∧ (s.waitAll entries).params = s.params := by
  induction entries generalizing s with
  | nil => simp [State.waitAll]
  | cons q rest ih => simp [State.waitAll, ih]

/-- `State.dropLinkEntries` changes at most: table, queue. -/
@[simp] theorem State.dropLinkEntries_frame (s : State) (l : LinkId) :
    (s.dropLinkEntries l).poolFree = s.poolFree ∧ (s.dropLinkEntries l).epochCount = s.epochCount ∧
     (s.dropLinkEntries l).epoch = s.epoch ∧ (s.dropLinkEntries l).se0 = s.se0 ∧ (s.dropLinkEntries l).se1 = s.se1 ∧
     (s.dropLinkEntries l).aliases = s.aliases ∧ (s.dropLinkEntries l).links = s.links ∧ (s.dropLinkEntries l).host = s.host ∧
     (s.dropLinkEntries l).store = s.store ∧ (s.dropLinkEntries l).rstN = s.rstN ∧
     (s.dropLinkEntries l).considerDue = s.considerDue ∧ (s.dropLinkEntries l).freeCount = s.freeCount ∧
     (s.dropLinkEntries l).pending = s.pending ∧ (∀ i : EngineId, (s.dropLinkEntries l).sweep i = s.sweep i) ∧
     (∀ j : LinkId, (s.dropLinkEntries l).link j = s.link j) ∧ (s.dropLinkEntries l).params = s.params := by
  simp [State.dropLinkEntries]

/-- `State.abortForDisable` changes at most: table, se0, se1, links, host, considerDue, freeCount. -/
@[simp] theorem State.abortForDisable_frame (s : State) (l : LinkId) :
    (s.abortForDisable l).poolFree = s.poolFree ∧ (s.abortForDisable l).epochCount = s.epochCount ∧
     (s.abortForDisable l).epoch = s.epoch ∧ (s.abortForDisable l).queue = s.queue ∧ (s.abortForDisable l).aliases = s.aliases ∧
     (s.abortForDisable l).store = s.store ∧ (s.abortForDisable l).rstN = s.rstN ∧ (s.abortForDisable l).pending = s.pending ∧
     (s.abortForDisable l).params = s.params := by
  simp only [State.abortForDisable]
  (repeat' split) <;> simp

/-- `State.quietLink` changes at most: links, freeCount. -/
@[simp] theorem State.quietLink_frame (s : State) (l : LinkId) :
    (s.quietLink l).table = s.table ∧ (s.quietLink l).poolFree = s.poolFree ∧ (s.quietLink l).epochCount = s.epochCount ∧
     (s.quietLink l).epoch = s.epoch ∧ (s.quietLink l).queue = s.queue ∧ (s.quietLink l).se0 = s.se0 ∧
     (s.quietLink l).se1 = s.se1 ∧ (s.quietLink l).aliases = s.aliases ∧ (s.quietLink l).host = s.host ∧
     (s.quietLink l).store = s.store ∧ (s.quietLink l).rstN = s.rstN ∧ (s.quietLink l).considerDue = s.considerDue ∧
     (s.quietLink l).pending = s.pending ∧ (∀ i : EngineId, (s.quietLink l).sweep i = s.sweep i) ∧
     (s.quietLink l).params = s.params := by
  simp [State.quietLink]

/-- `State.disableLink` changes at most: table, queue, se0, se1, links, host, store, considerDue, freeCount. -/
@[simp] theorem State.disableLink_frame (s : State) (l : LinkId) :
    (s.disableLink l).poolFree = s.poolFree ∧ (s.disableLink l).epochCount = s.epochCount ∧ (s.disableLink l).epoch = s.epoch ∧
     (s.disableLink l).aliases = s.aliases ∧ (s.disableLink l).rstN = s.rstN ∧ (s.disableLink l).pending = s.pending := by
  simp only [State.disableLink]
  (repeat' split) <;> simp

/-- `State.startReceiver` changes at most: links. -/
@[simp] theorem State.startReceiver_frame (s : State) (l : LinkId) :
    (s.startReceiver l).table = s.table ∧ (s.startReceiver l).poolFree = s.poolFree ∧
     (s.startReceiver l).epochCount = s.epochCount ∧ (s.startReceiver l).epoch = s.epoch ∧ (s.startReceiver l).queue = s.queue ∧
     (s.startReceiver l).se0 = s.se0 ∧ (s.startReceiver l).se1 = s.se1 ∧ (s.startReceiver l).aliases = s.aliases ∧
     (s.startReceiver l).host = s.host ∧ (s.startReceiver l).store = s.store ∧ (s.startReceiver l).rstN = s.rstN ∧
     (s.startReceiver l).considerDue = s.considerDue ∧ (s.startReceiver l).freeCount = s.freeCount ∧
     (s.startReceiver l).pending = s.pending ∧ (∀ i : EngineId, (s.startReceiver l).sweep i = s.sweep i) ∧
     (s.startReceiver l).params = s.params := by
  simp [State.startReceiver]

/-- `State.reenableLink` changes at most: links, host, store. -/
@[simp] theorem State.reenableLink_frame (s : State) (l : LinkId) :
    (s.reenableLink l).table = s.table ∧ (s.reenableLink l).poolFree = s.poolFree ∧
     (s.reenableLink l).epochCount = s.epochCount ∧ (s.reenableLink l).epoch = s.epoch ∧ (s.reenableLink l).queue = s.queue ∧
     (s.reenableLink l).se0 = s.se0 ∧ (s.reenableLink l).se1 = s.se1 ∧ (s.reenableLink l).aliases = s.aliases ∧
     (s.reenableLink l).rstN = s.rstN ∧ (s.reenableLink l).considerDue = s.considerDue ∧
     (s.reenableLink l).freeCount = s.freeCount ∧ (s.reenableLink l).pending = s.pending ∧
     (∀ i : EngineId, (s.reenableLink l).sweep i = s.sweep i) := by
  simp only [State.reenableLink]
  (repeat' split) <;> simp

/-- `State.haltEngine` changes at most: se0, se1, links, considerDue, freeCount. -/
@[simp] theorem State.haltEngine_frame (s : State) (e : EngineId) :
    (s.haltEngine e).table = s.table ∧ (s.haltEngine e).poolFree = s.poolFree ∧ (s.haltEngine e).epochCount = s.epochCount ∧
     (s.haltEngine e).epoch = s.epoch ∧ (s.haltEngine e).queue = s.queue ∧ (s.haltEngine e).aliases = s.aliases ∧
     (s.haltEngine e).host = s.host ∧ (s.haltEngine e).store = s.store ∧ (s.haltEngine e).rstN = s.rstN ∧
     (s.haltEngine e).pending = s.pending ∧ (s.haltEngine e).params = s.params := by
  simp only [State.haltEngine]
  (repeat' split) <;> simp

/-- `State.clearRequests` changes at most: links, freeCount. -/
@[simp] theorem State.clearRequests_frame (s : State) (l : LinkId) :
    (s.clearRequests l).table = s.table ∧ (s.clearRequests l).poolFree = s.poolFree ∧
     (s.clearRequests l).epochCount = s.epochCount ∧ (s.clearRequests l).epoch = s.epoch ∧ (s.clearRequests l).queue = s.queue ∧
     (s.clearRequests l).se0 = s.se0 ∧ (s.clearRequests l).se1 = s.se1 ∧ (s.clearRequests l).aliases = s.aliases ∧
     (s.clearRequests l).host = s.host ∧ (s.clearRequests l).store = s.store ∧ (s.clearRequests l).rstN = s.rstN ∧
     (s.clearRequests l).considerDue = s.considerDue ∧ (s.clearRequests l).pending = s.pending ∧
     (∀ i : EngineId, (s.clearRequests l).sweep i = s.sweep i) ∧ (s.clearRequests l).params = s.params := by
  simp [State.clearRequests]

/-- `State.clearTable` changes at most: table, poolFree, queue, considerDue. -/
@[simp] theorem State.clearTable_frame (s : State) :
    (s.clearTable).epochCount = s.epochCount ∧ (s.clearTable).epoch = s.epoch ∧ (s.clearTable).se0 = s.se0 ∧
     (s.clearTable).se1 = s.se1 ∧ (s.clearTable).aliases = s.aliases ∧ (s.clearTable).links = s.links ∧
     (s.clearTable).host = s.host ∧ (s.clearTable).store = s.store ∧ (s.clearTable).rstN = s.rstN ∧
     (s.clearTable).freeCount = s.freeCount ∧ (s.clearTable).pending = s.pending ∧
     (∀ i : EngineId, (s.clearTable).sweep i = s.sweep i) ∧ (∀ j : LinkId, (s.clearTable).link j = s.link j) ∧
     (s.clearTable).params = s.params := by
  simp [State.clearTable]

/-- `State.softResetTable` changes at most: table, poolFree, queue, se0, se1, links, considerDue, freeCount. -/
@[simp] theorem State.softResetTable_frame (s : State) :
    (s.softResetTable).epochCount = s.epochCount ∧ (s.softResetTable).epoch = s.epoch ∧ (s.softResetTable).aliases = s.aliases ∧
     (s.softResetTable).host = s.host ∧ (s.softResetTable).store = s.store ∧ (s.softResetTable).rstN = s.rstN ∧
     (s.softResetTable).pending = s.pending ∧ (s.softResetTable).params = s.params := by
  simp [State.softResetTable]

/-- `State.resetLink` changes at most: links, host, freeCount. -/
@[simp] theorem State.resetLink_frame (s : State) (l : LinkId) :
    (s.resetLink l).table = s.table ∧ (s.resetLink l).poolFree = s.poolFree ∧ (s.resetLink l).epochCount = s.epochCount ∧
     (s.resetLink l).epoch = s.epoch ∧ (s.resetLink l).queue = s.queue ∧ (s.resetLink l).se0 = s.se0 ∧
     (s.resetLink l).se1 = s.se1 ∧ (s.resetLink l).aliases = s.aliases ∧ (s.resetLink l).store = s.store ∧
     (s.resetLink l).rstN = s.rstN ∧ (s.resetLink l).considerDue = s.considerDue ∧ (s.resetLink l).pending = s.pending ∧
     (∀ i : EngineId, (s.resetLink l).sweep i = s.sweep i) ∧ (s.resetLink l).params = s.params := by
  simp only [State.resetLink]
  (repeat' split) <;> simp

/-- `State.softResetFull` changes at most: table, poolFree, epochCount, epoch, queue, se0, se1, aliases, links, host, store, considerDue, freeCount. -/
@[simp] theorem State.softResetFull_frame (s : State) :
    (s.softResetFull).rstN = s.rstN ∧ (s.softResetFull).pending = s.pending := by
  simp [State.softResetFull]

end Sys2Proof.Machine
end

