-- ==== Sys2Proof/Laws/EventsFrames.lean ====
section
/-! SUPPORT. What the operations of timers, engines, lookups and link frames leave unchanged. -/

namespace Sys2Proof.Machine

/-- `State.emitAll` changes at most: host. -/
@[simp] theorem State.emitAll_frame (s : State) (notices : List Notice) :
    (s.emitAll notices).table = s.table ∧ (s.emitAll notices).poolFree = s.poolFree ∧
     (s.emitAll notices).epochCount = s.epochCount ∧ (s.emitAll notices).epoch = s.epoch ∧ (s.emitAll notices).queue = s.queue ∧
     (s.emitAll notices).se0 = s.se0 ∧ (s.emitAll notices).se1 = s.se1 ∧ (s.emitAll notices).aliases = s.aliases ∧
     (s.emitAll notices).links = s.links ∧ (s.emitAll notices).store = s.store ∧ (s.emitAll notices).rstN = s.rstN ∧
     (s.emitAll notices).considerDue = s.considerDue ∧ (s.emitAll notices).freeCount = s.freeCount ∧
     (s.emitAll notices).pending = s.pending ∧ (∀ i : EngineId, (s.emitAll notices).sweep i = s.sweep i) ∧
     (∀ j : LinkId, (s.emitAll notices).link j = s.link j) ∧ (s.emitAll notices).params = s.params := by
  induction notices generalizing s with
  | nil => simp [State.emitAll]
  | cons n rest ih => simp [State.emitAll, ih]

/-- `State.ageAll` changes at most: table, epochCount, host. -/
@[simp] theorem State.ageAll_frame (s : State) :
    (s.ageAll).poolFree = s.poolFree ∧ (s.ageAll).epoch = s.epoch ∧ (s.ageAll).queue = s.queue ∧ (s.ageAll).se0 = s.se0 ∧
     (s.ageAll).se1 = s.se1 ∧ (s.ageAll).aliases = s.aliases ∧ (s.ageAll).links = s.links ∧ (s.ageAll).store = s.store ∧
     (s.ageAll).rstN = s.rstN ∧ (s.ageAll).considerDue = s.considerDue ∧ (s.ageAll).freeCount = s.freeCount ∧
     (s.ageAll).pending = s.pending ∧ (∀ i : EngineId, (s.ageAll).sweep i = s.sweep i) ∧
     (∀ j : LinkId, (s.ageAll).link j = s.link j) ∧ (s.ageAll).params = s.params := by
  simp [State.ageAll]

/-- `State.offerWaiting` changes at most: table, queue, considerDue. -/
@[simp] theorem State.offerWaiting_frame (s : State) :
    (s.offerWaiting).poolFree = s.poolFree ∧ (s.offerWaiting).epochCount = s.epochCount ∧ (s.offerWaiting).epoch = s.epoch ∧
     (s.offerWaiting).se0 = s.se0 ∧ (s.offerWaiting).se1 = s.se1 ∧ (s.offerWaiting).aliases = s.aliases ∧
     (s.offerWaiting).links = s.links ∧ (s.offerWaiting).host = s.host ∧ (s.offerWaiting).store = s.store ∧
     (s.offerWaiting).rstN = s.rstN ∧ (s.offerWaiting).freeCount = s.freeCount ∧ (s.offerWaiting).pending = s.pending ∧
     (∀ i : EngineId, (s.offerWaiting).sweep i = s.sweep i) ∧ (∀ j : LinkId, (s.offerWaiting).link j = s.link j) ∧
     (s.offerWaiting).params = s.params := by
  simp [State.offerWaiting]

/-- `State.startEpoch` changes at most: epoch. -/
@[simp] theorem State.startEpoch_frame (s : State) :
    (s.startEpoch).table = s.table ∧ (s.startEpoch).poolFree = s.poolFree ∧ (s.startEpoch).epochCount = s.epochCount ∧
     (s.startEpoch).queue = s.queue ∧ (s.startEpoch).se0 = s.se0 ∧ (s.startEpoch).se1 = s.se1 ∧
     (s.startEpoch).aliases = s.aliases ∧ (s.startEpoch).links = s.links ∧ (s.startEpoch).host = s.host ∧
     (s.startEpoch).store = s.store ∧ (s.startEpoch).rstN = s.rstN ∧ (s.startEpoch).considerDue = s.considerDue ∧
     (s.startEpoch).freeCount = s.freeCount ∧ (s.startEpoch).pending = s.pending ∧
     (∀ i : EngineId, (s.startEpoch).sweep i = s.sweep i) ∧ (∀ j : LinkId, (s.startEpoch).link j = s.link j) ∧
     (s.startEpoch).params = s.params := by
  simp [State.startEpoch]

/-- `State.requestTimeout` changes at most: table, queue, se0, se1, links, host, considerDue, freeCount. -/
@[simp] theorem State.requestTimeout_frame (s : State) (e : EngineId) (w : Sweep) :
    (s.requestTimeout e w).poolFree = s.poolFree ∧ (s.requestTimeout e w).epochCount = s.epochCount ∧
     (s.requestTimeout e w).epoch = s.epoch ∧ (s.requestTimeout e w).aliases = s.aliases ∧
     (s.requestTimeout e w).store = s.store ∧ (s.requestTimeout e w).rstN = s.rstN ∧
     (s.requestTimeout e w).pending = s.pending ∧ (s.requestTimeout e w).params = s.params := by
  simp only [State.requestTimeout]
  (repeat' split) <;> simp

/-- `State.checkPartner` changes at most: table, queue, se0, se1, links, host, considerDue. -/
@[simp] theorem State.checkPartner_frame (s : State) (e : EngineId) (w : Sweep) :
    (s.checkPartner e w).poolFree = s.poolFree ∧ (s.checkPartner e w).epochCount = s.epochCount ∧
     (s.checkPartner e w).epoch = s.epoch ∧ (s.checkPartner e w).aliases = s.aliases ∧ (s.checkPartner e w).store = s.store ∧
     (s.checkPartner e w).rstN = s.rstN ∧ (s.checkPartner e w).freeCount = s.freeCount ∧
     (s.checkPartner e w).pending = s.pending ∧ (s.checkPartner e w).params = s.params := by
  simp only [State.checkPartner]
  (repeat' split) <;> simp

/-- `State.acceptAnswer` changes at most: se0, se1, links. -/
@[simp] theorem State.acceptAnswer_frame (s : State) (l : LinkId) (e : EngineId) (w : Sweep) :
    (s.acceptAnswer l e w).table = s.table ∧ (s.acceptAnswer l e w).poolFree = s.poolFree ∧
     (s.acceptAnswer l e w).epochCount = s.epochCount ∧ (s.acceptAnswer l e w).epoch = s.epoch ∧
     (s.acceptAnswer l e w).queue = s.queue ∧ (s.acceptAnswer l e w).aliases = s.aliases ∧
     (s.acceptAnswer l e w).host = s.host ∧ (s.acceptAnswer l e w).store = s.store ∧ (s.acceptAnswer l e w).rstN = s.rstN ∧
     (s.acceptAnswer l e w).considerDue = s.considerDue ∧ (s.acceptAnswer l e w).freeCount = s.freeCount ∧
     (s.acceptAnswer l e w).pending = s.pending ∧ (s.acceptAnswer l e w).params = s.params := by
  simp [State.acceptAnswer]

/-- `State.zeroResult` changes at most: table, queue, se0, se1, links, host, considerDue. -/
@[simp] theorem State.zeroResult_frame (s : State) (e : EngineId) (w : Sweep) (c : Condition) (m n : Word) :
    (s.zeroResult e w c m n).poolFree = s.poolFree ∧ (s.zeroResult e w c m n).epochCount = s.epochCount ∧
     (s.zeroResult e w c m n).epoch = s.epoch ∧ (s.zeroResult e w c m n).aliases = s.aliases ∧
     (s.zeroResult e w c m n).store = s.store ∧ (s.zeroResult e w c m n).rstN = s.rstN ∧
     (s.zeroResult e w c m n).freeCount = s.freeCount ∧ (s.zeroResult e w c m n).pending = s.pending ∧
     (s.zeroResult e w c m n).params = s.params := by
  simp only [State.zeroResult]
  (repeat' split) <;> simp

/-- `State.goodPoint` changes at most: table, poolFree, queue, se0, se1, links, host, considerDue. -/
@[simp] theorem State.goodPoint_frame (s : State) (e : EngineId) (w : Sweep) (k : Nat) (p : Point) :
    (s.goodPoint e w k p).epochCount = s.epochCount ∧ (s.goodPoint e w k p).epoch = s.epoch ∧
     (s.goodPoint e w k p).aliases = s.aliases ∧ (s.goodPoint e w k p).store = s.store ∧ (s.goodPoint e w k p).rstN = s.rstN ∧
     (s.goodPoint e w k p).freeCount = s.freeCount ∧ (s.goodPoint e w k p).pending = s.pending ∧
     (s.goodPoint e w k p).params = s.params := by
  simp only [State.goodPoint]
  (repeat' split) <;> simp

/-- `State.saturatedPoint` changes at most: table, queue, se0, se1, links, host, considerDue. -/
@[simp] theorem State.saturatedPoint_frame (s : State) (e : EngineId) (w : Sweep) :
    (s.saturatedPoint e w).poolFree = s.poolFree ∧ (s.saturatedPoint e w).epochCount = s.epochCount ∧
     (s.saturatedPoint e w).epoch = s.epoch ∧ (s.saturatedPoint e w).aliases = s.aliases ∧
     (s.saturatedPoint e w).store = s.store ∧ (s.saturatedPoint e w).rstN = s.rstN ∧
     (s.saturatedPoint e w).freeCount = s.freeCount ∧ (s.saturatedPoint e w).pending = s.pending ∧
     (s.saturatedPoint e w).params = s.params := by
  simp only [State.saturatedPoint]
  (repeat' split) <;> simp

/-- `State.pointResult` changes at most: table, poolFree, queue, se0, se1, links, host, considerDue. -/
@[simp] theorem State.pointResult_frame (s : State) (e : EngineId) (w : Sweep) (k : Nat) (c : Condition) (m n : Word) :
    (s.pointResult e w k c m n).epochCount = s.epochCount ∧ (s.pointResult e w k c m n).epoch = s.epoch ∧
     (s.pointResult e w k c m n).aliases = s.aliases ∧ (s.pointResult e w k c m n).store = s.store ∧
     (s.pointResult e w k c m n).rstN = s.rstN ∧ (s.pointResult e w k c m n).freeCount = s.freeCount ∧
     (s.pointResult e w k c m n).pending = s.pending ∧ (s.pointResult e w k c m n).params = s.params := by
  simp only [State.pointResult]
  (repeat' split) <;> simp

/-- `State.actOnResult` changes at most: table, poolFree, queue, se0, se1, links, host, considerDue. -/
@[simp] theorem State.actOnResult_frame (s : State) (e : EngineId) (w : Sweep) (c : Condition) (m n : Word) :
    (s.actOnResult e w c m n).epochCount = s.epochCount ∧ (s.actOnResult e w c m n).epoch = s.epoch ∧
     (s.actOnResult e w c m n).aliases = s.aliases ∧ (s.actOnResult e w c m n).store = s.store ∧
     (s.actOnResult e w c m n).rstN = s.rstN ∧ (s.actOnResult e w c m n).freeCount = s.freeCount ∧
     (s.actOnResult e w c m n).pending = s.pending ∧ (s.actOnResult e w c m n).params = s.params := by
  simp only [State.actOnResult]
  (repeat' split) <;> simp

/-- `State.calResult` changes at most: table, poolFree, queue, se0, se1, links, host, considerDue. -/
@[simp] theorem State.calResult_frame (s : State) (l : LinkId) (sequence condition : Byte) (m n : Word) :
    (s.calResult l sequence condition m n).epochCount = s.epochCount ∧ (s.calResult l sequence condition m n).epoch = s.epoch ∧
     (s.calResult l sequence condition m n).aliases = s.aliases ∧ (s.calResult l sequence condition m n).store = s.store ∧
     (s.calResult l sequence condition m n).rstN = s.rstN ∧ (s.calResult l sequence condition m n).freeCount = s.freeCount ∧
     (s.calResult l sequence condition m n).pending = s.pending ∧ (s.calResult l sequence condition m n).params = s.params := by
  simp only [State.calResult]
  (repeat' split) <;> simp

/-- `State.actOnDecline` changes at most: table, queue, se0, se1, links, host, considerDue. -/
@[simp] theorem State.actOnDecline_frame (s : State) (e : EngineId) (w : Sweep) :
    (s.actOnDecline e w).poolFree = s.poolFree ∧ (s.actOnDecline e w).epochCount = s.epochCount ∧
     (s.actOnDecline e w).epoch = s.epoch ∧ (s.actOnDecline e w).aliases = s.aliases ∧ (s.actOnDecline e w).store = s.store ∧
     (s.actOnDecline e w).rstN = s.rstN ∧ (s.actOnDecline e w).freeCount = s.freeCount ∧
     (s.actOnDecline e w).pending = s.pending ∧ (s.actOnDecline e w).params = s.params := by
  simp only [State.actOnDecline]
  (repeat' split) <;> simp

/-- `State.calDeclined` changes at most: table, queue, se0, se1, links, host, considerDue. -/
@[simp] theorem State.calDeclined_frame (s : State) (l : LinkId) (sequence : Byte) :
    (s.calDeclined l sequence).poolFree = s.poolFree ∧ (s.calDeclined l sequence).epochCount = s.epochCount ∧
     (s.calDeclined l sequence).epoch = s.epoch ∧ (s.calDeclined l sequence).aliases = s.aliases ∧
     (s.calDeclined l sequence).store = s.store ∧ (s.calDeclined l sequence).rstN = s.rstN ∧
     (s.calDeclined l sequence).freeCount = s.freeCount ∧ (s.calDeclined l sequence).pending = s.pending ∧
     (s.calDeclined l sequence).params = s.params := by
  simp only [State.calDeclined]
  (repeat' split) <;> simp

/-- `State.serve` changes at most: table. -/
@[simp] theorem State.serve_frame (s : State) (tag : Fin 4) (slot : Nat) (r : Record) (aliased : Bool) :
    ((s.serve tag slot r aliased).1).poolFree = s.poolFree ∧ ((s.serve tag slot r aliased).1).epochCount = s.epochCount ∧
     ((s.serve tag slot r aliased).1).epoch = s.epoch ∧ ((s.serve tag slot r aliased).1).queue = s.queue ∧
     ((s.serve tag slot r aliased).1).se0 = s.se0 ∧ ((s.serve tag slot r aliased).1).se1 = s.se1 ∧
     ((s.serve tag slot r aliased).1).aliases = s.aliases ∧ ((s.serve tag slot r aliased).1).links = s.links ∧
     ((s.serve tag slot r aliased).1).host = s.host ∧ ((s.serve tag slot r aliased).1).store = s.store ∧
     ((s.serve tag slot r aliased).1).rstN = s.rstN ∧ ((s.serve tag slot r aliased).1).considerDue = s.considerDue ∧
     ((s.serve tag slot r aliased).1).freeCount = s.freeCount ∧ ((s.serve tag slot r aliased).1).pending = s.pending ∧
     (∀ i : EngineId, ((s.serve tag slot r aliased).1).sweep i = s.sweep i) ∧
     (∀ j : LinkId, ((s.serve tag slot r aliased).1).link j = s.link j) ∧ ((s.serve tag slot r aliased).1).params = s.params := by
  simp [State.serve]

/-- `State.evict` changes at most: table, poolFree, queue, host. -/
@[simp] theorem State.evict_frame (s : State) (slot : Nat) (r : Record) (newKey : Key) :
    (s.evict slot r newKey).epochCount = s.epochCount ∧ (s.evict slot r newKey).epoch = s.epoch ∧
     (s.evict slot r newKey).se0 = s.se0 ∧ (s.evict slot r newKey).se1 = s.se1 ∧ (s.evict slot r newKey).aliases = s.aliases ∧
     (s.evict slot r newKey).links = s.links ∧ (s.evict slot r newKey).store = s.store ∧ (s.evict slot r newKey).rstN = s.rstN ∧
     (s.evict slot r newKey).considerDue = s.considerDue ∧ (s.evict slot r newKey).freeCount = s.freeCount ∧
     (s.evict slot r newKey).pending = s.pending ∧ (∀ i : EngineId, (s.evict slot r newKey).sweep i = s.sweep i) ∧
     (∀ j : LinkId, (s.evict slot r newKey).link j = s.link j) ∧ (s.evict slot r newKey).params = s.params := by
  simp [State.evict]

/-- `State.autoCreate` changes at most: table, poolFree, queue, host, considerDue. -/
@[simp] theorem State.autoCreate_frame (s : State) (tag : Fin 4) (key : Key) :
    ((s.autoCreate tag key).1).epochCount = s.epochCount ∧ ((s.autoCreate tag key).1).epoch = s.epoch ∧
     ((s.autoCreate tag key).1).se0 = s.se0 ∧ ((s.autoCreate tag key).1).se1 = s.se1 ∧
     ((s.autoCreate tag key).1).aliases = s.aliases ∧ ((s.autoCreate tag key).1).links = s.links ∧
     ((s.autoCreate tag key).1).store = s.store ∧ ((s.autoCreate tag key).1).rstN = s.rstN ∧
     ((s.autoCreate tag key).1).freeCount = s.freeCount ∧ ((s.autoCreate tag key).1).pending = s.pending ∧
     (∀ i : EngineId, ((s.autoCreate tag key).1).sweep i = s.sweep i) ∧
     (∀ j : LinkId, ((s.autoCreate tag key).1).link j = s.link j) ∧ ((s.autoCreate tag key).1).params = s.params := by
  simp only [State.autoCreate, State.slotForAuto]
  cases Table.lowestFree s.table with
  | some slot => simp
  | none => cases Table.evictionCandidate s.table with
    | none => simp
    | some c => simp

/-- `State.answerOwn` changes at most: table, poolFree, queue, host, considerDue. -/
@[simp] theorem State.answerOwn_frame (s : State) (tag : Fin 4) (key : Key) :
    ((s.answerOwn tag key).1).epochCount = s.epochCount ∧ ((s.answerOwn tag key).1).epoch = s.epoch ∧
     ((s.answerOwn tag key).1).se0 = s.se0 ∧ ((s.answerOwn tag key).1).se1 = s.se1 ∧
     ((s.answerOwn tag key).1).aliases = s.aliases ∧ ((s.answerOwn tag key).1).links = s.links ∧
     ((s.answerOwn tag key).1).store = s.store ∧ ((s.answerOwn tag key).1).rstN = s.rstN ∧
     ((s.answerOwn tag key).1).freeCount = s.freeCount ∧ ((s.answerOwn tag key).1).pending = s.pending ∧
     (∀ i : EngineId, ((s.answerOwn tag key).1).sweep i = s.sweep i) ∧
     (∀ j : LinkId, ((s.answerOwn tag key).1).link j = s.link j) ∧ ((s.answerOwn tag key).1).params = s.params := by
  simp only [State.answerOwn]
  (repeat' split) <;> simp

/-- `State.answerAliased` changes at most: table, poolFree, queue, host, considerDue. -/
@[simp] theorem State.answerAliased_frame (s : State) (tag : Fin 4) (key : Key) (a : AliasEntry) :
    ((s.answerAliased tag key a).1).epochCount = s.epochCount ∧ ((s.answerAliased tag key a).1).epoch = s.epoch ∧
     ((s.answerAliased tag key a).1).se0 = s.se0 ∧ ((s.answerAliased tag key a).1).se1 = s.se1 ∧
     ((s.answerAliased tag key a).1).aliases = s.aliases ∧ ((s.answerAliased tag key a).1).links = s.links ∧
     ((s.answerAliased tag key a).1).store = s.store ∧ ((s.answerAliased tag key a).1).rstN = s.rstN ∧
     ((s.answerAliased tag key a).1).freeCount = s.freeCount ∧ ((s.answerAliased tag key a).1).pending = s.pending ∧
     (∀ i : EngineId, ((s.answerAliased tag key a).1).sweep i = s.sweep i) ∧
     (∀ j : LinkId, ((s.answerAliased tag key a).1).link j = s.link j) ∧ ((s.answerAliased tag key a).1).params = s.params := by
  simp only [State.answerAliased]
  (repeat' split) <;> simp

/-- `State.answerKey` changes at most: table, poolFree, queue, host, considerDue. -/
@[simp] theorem State.answerKey_frame (s : State) (tag : Fin 4) (key : Key) :
    ((s.answerKey tag key).1).epochCount = s.epochCount ∧ ((s.answerKey tag key).1).epoch = s.epoch ∧
     ((s.answerKey tag key).1).se0 = s.se0 ∧ ((s.answerKey tag key).1).se1 = s.se1 ∧
     ((s.answerKey tag key).1).aliases = s.aliases ∧ ((s.answerKey tag key).1).links = s.links ∧
     ((s.answerKey tag key).1).store = s.store ∧ ((s.answerKey tag key).1).rstN = s.rstN ∧
     ((s.answerKey tag key).1).freeCount = s.freeCount ∧ ((s.answerKey tag key).1).pending = s.pending ∧
     (∀ i : EngineId, ((s.answerKey tag key).1).sweep i = s.sweep i) ∧
     (∀ j : LinkId, ((s.answerKey tag key).1).link j = s.link j) ∧ ((s.answerKey tag key).1).params = s.params := by
  simp only [State.answerKey]
  (repeat' split) <;> simp

/-- `State.answerLookup` changes at most: table, poolFree, queue, host, considerDue. -/
@[simp] theorem State.answerLookup_frame (s : State) (l : LinkId) (tag : Fin 4) (channel tone gain : Byte) :
    ((s.answerLookup l tag channel tone gain).1).epochCount = s.epochCount ∧
     ((s.answerLookup l tag channel tone gain).1).epoch = s.epoch ∧ ((s.answerLookup l tag channel tone gain).1).se0 = s.se0 ∧
     ((s.answerLookup l tag channel tone gain).1).se1 = s.se1 ∧
     ((s.answerLookup l tag channel tone gain).1).aliases = s.aliases ∧
     ((s.answerLookup l tag channel tone gain).1).links = s.links ∧
     ((s.answerLookup l tag channel tone gain).1).store = s.store ∧ ((s.answerLookup l tag channel tone gain).1).rstN = s.rstN ∧
     ((s.answerLookup l tag channel tone gain).1).freeCount = s.freeCount ∧
     ((s.answerLookup l tag channel tone gain).1).pending = s.pending ∧
     (∀ i : EngineId, ((s.answerLookup l tag channel tone gain).1).sweep i = s.sweep i) ∧
     (∀ j : LinkId, ((s.answerLookup l tag channel tone gain).1).link j = s.link j) ∧
     ((s.answerLookup l tag channel tone gain).1).params = s.params := by
  simp only [State.answerLookup]
  (repeat' split) <;> simp

/-- `State.handOver` changes at most: table, poolFree, queue, links, host, considerDue. -/
@[simp] theorem State.handOver_frame (s : State) (l : LinkId) (tag : Fin 4) (channel tone gain : Byte) :
    (s.handOver l tag channel tone gain).epochCount = s.epochCount ∧ (s.handOver l tag channel tone gain).epoch = s.epoch ∧
     (s.handOver l tag channel tone gain).se0 = s.se0 ∧ (s.handOver l tag channel tone gain).se1 = s.se1 ∧
     (s.handOver l tag channel tone gain).aliases = s.aliases ∧ (s.handOver l tag channel tone gain).store = s.store ∧
     (s.handOver l tag channel tone gain).rstN = s.rstN ∧ (s.handOver l tag channel tone gain).freeCount = s.freeCount ∧
     (s.handOver l tag channel tone gain).pending = s.pending ∧
     (∀ i : EngineId, (s.handOver l tag channel tone gain).sweep i = s.sweep i) ∧
     (s.handOver l tag channel tone gain).params = s.params := by
  simp [State.handOver]

/-- `State.lookup` changes at most: table, poolFree, queue, se0, se1, links, host, considerDue, freeCount. -/
@[simp] theorem State.lookup_frame (s : State) (l : LinkId) (tag channel tone gain : Byte) :
    (s.lookup l tag channel tone gain).epochCount = s.epochCount ∧ (s.lookup l tag channel tone gain).epoch = s.epoch ∧
     (s.lookup l tag channel tone gain).aliases = s.aliases ∧ (s.lookup l tag channel tone gain).store = s.store ∧
     (s.lookup l tag channel tone gain).rstN = s.rstN ∧ (s.lookup l tag channel tone gain).pending = s.pending ∧
     (s.lookup l tag channel tone gain).params = s.params := by
  simp only [State.lookup]
  (repeat' split) <;> simp

/-- `State.sentEffects` changes at most: se0, se1, links. -/
@[simp] theorem State.sentEffects_frame (s : State) (l : LinkId) (m : OutMsg) :
    (s.sentEffects l m).table = s.table ∧ (s.sentEffects l m).poolFree = s.poolFree ∧
     (s.sentEffects l m).epochCount = s.epochCount ∧ (s.sentEffects l m).epoch = s.epoch ∧ (s.sentEffects l m).queue = s.queue ∧
     (s.sentEffects l m).aliases = s.aliases ∧ (s.sentEffects l m).host = s.host ∧ (s.sentEffects l m).store = s.store ∧
     (s.sentEffects l m).rstN = s.rstN ∧ (s.sentEffects l m).considerDue = s.considerDue ∧
     (s.sentEffects l m).freeCount = s.freeCount ∧ (s.sentEffects l m).pending = s.pending ∧
     (s.sentEffects l m).params = s.params := by
  simp only [State.sentEffects]
  (repeat' split) <;> simp

/-- `State.frameSent` changes at most: se0, se1, links. -/
@[simp] theorem State.frameSent_frame (s : State) (l : LinkId) :
    (s.frameSent l).table = s.table ∧ (s.frameSent l).poolFree = s.poolFree ∧ (s.frameSent l).epochCount = s.epochCount ∧
     (s.frameSent l).epoch = s.epoch ∧ (s.frameSent l).queue = s.queue ∧ (s.frameSent l).aliases = s.aliases ∧
     (s.frameSent l).host = s.host ∧ (s.frameSent l).store = s.store ∧ (s.frameSent l).rstN = s.rstN ∧
     (s.frameSent l).considerDue = s.considerDue ∧ (s.frameSent l).freeCount = s.freeCount ∧
     (s.frameSent l).pending = s.pending ∧ (s.frameSent l).params = s.params := by
  simp only [State.frameSent]
  (repeat' split) <;> simp

/-- `State.withRx` changes at most: links. -/
@[simp] theorem State.withRx_frame (s : State) (l : LinkId) (chars : List Byte) :
    (s.withRx l chars).table = s.table ∧ (s.withRx l chars).poolFree = s.poolFree ∧
     (s.withRx l chars).epochCount = s.epochCount ∧ (s.withRx l chars).epoch = s.epoch ∧ (s.withRx l chars).queue = s.queue ∧
     (s.withRx l chars).se0 = s.se0 ∧ (s.withRx l chars).se1 = s.se1 ∧ (s.withRx l chars).aliases = s.aliases ∧
     (s.withRx l chars).host = s.host ∧ (s.withRx l chars).store = s.store ∧ (s.withRx l chars).rstN = s.rstN ∧
     (s.withRx l chars).considerDue = s.considerDue ∧ (s.withRx l chars).freeCount = s.freeCount ∧
     (s.withRx l chars).pending = s.pending ∧ (∀ i : EngineId, (s.withRx l chars).sweep i = s.sweep i) ∧
     (s.withRx l chars).params = s.params := by
  simp [State.withRx]

/-- `State.train` changes at most: links, host, considerDue, freeCount. -/
@[simp] theorem State.train_frame (s : State) (l : LinkId) (p : Partner) :
    (s.train l p).table = s.table ∧ (s.train l p).poolFree = s.poolFree ∧ (s.train l p).epochCount = s.epochCount ∧
     (s.train l p).epoch = s.epoch ∧ (s.train l p).queue = s.queue ∧ (s.train l p).se0 = s.se0 ∧ (s.train l p).se1 = s.se1 ∧
     (s.train l p).aliases = s.aliases ∧ (s.train l p).store = s.store ∧ (s.train l p).rstN = s.rstN ∧
     (s.train l p).pending = s.pending ∧ (∀ i : EngineId, (s.train l p).sweep i = s.sweep i) ∧ (s.train l p).params = s.params := by
  simp [State.train]

/-- `State.refusePartner` changes at most: links, host. -/
@[simp] theorem State.refusePartner_frame (s : State) (l : LinkId) (body : List Byte) :
    (s.refusePartner l body).table = s.table ∧ (s.refusePartner l body).poolFree = s.poolFree ∧
     (s.refusePartner l body).epochCount = s.epochCount ∧ (s.refusePartner l body).epoch = s.epoch ∧
     (s.refusePartner l body).queue = s.queue ∧ (s.refusePartner l body).se0 = s.se0 ∧ (s.refusePartner l body).se1 = s.se1 ∧
     (s.refusePartner l body).aliases = s.aliases ∧ (s.refusePartner l body).store = s.store ∧
     (s.refusePartner l body).rstN = s.rstN ∧ (s.refusePartner l body).considerDue = s.considerDue ∧
     (s.refusePartner l body).freeCount = s.freeCount ∧ (s.refusePartner l body).pending = s.pending ∧
     (∀ i : EngineId, (s.refusePartner l body).sweep i = s.sweep i) ∧ (s.refusePartner l body).params = s.params := by
  simp only [State.refusePartner]
  (repeat' split) <;> simp

/-- `State.helloAck` changes at most: table, poolFree, queue, se0, se1, links, host, considerDue, freeCount. -/
@[simp] theorem State.helloAck_frame (s : State) (l : LinkId) (body : List Byte) :
    (s.helloAck l body).epochCount = s.epochCount ∧ (s.helloAck l body).epoch = s.epoch ∧
     (s.helloAck l body).aliases = s.aliases ∧ (s.helloAck l body).store = s.store ∧ (s.helloAck l body).rstN = s.rstN ∧
     (s.helloAck l body).pending = s.pending ∧ (s.helloAck l body).params = s.params := by
  simp only [State.helloAck]
  (repeat' split) <;> simp

/-- `State.driftAlert` changes at most: table, queue, considerDue. -/
@[simp] theorem State.driftAlert_frame (s : State) (l : LinkId) (channels tones : Byte) :
    (s.driftAlert l channels tones).poolFree = s.poolFree ∧ (s.driftAlert l channels tones).epochCount = s.epochCount ∧
     (s.driftAlert l channels tones).epoch = s.epoch ∧ (s.driftAlert l channels tones).se0 = s.se0 ∧
     (s.driftAlert l channels tones).se1 = s.se1 ∧ (s.driftAlert l channels tones).aliases = s.aliases ∧
     (s.driftAlert l channels tones).links = s.links ∧ (s.driftAlert l channels tones).host = s.host ∧
     (s.driftAlert l channels tones).store = s.store ∧ (s.driftAlert l channels tones).rstN = s.rstN ∧
     (s.driftAlert l channels tones).freeCount = s.freeCount ∧ (s.driftAlert l channels tones).pending = s.pending ∧
     (∀ i : EngineId, (s.driftAlert l channels tones).sweep i = s.sweep i) ∧
     (∀ j : LinkId, (s.driftAlert l channels tones).link j = s.link j) ∧ (s.driftAlert l channels tones).params = s.params := by
  obtain ⟨q, t, c, h⟩ :=
    State.markPass_frame State.markAlert State.markAlert_shape (Table.slotsWhere s.table (drifts l channels tones)) s
  simp [State.driftAlert, h]

/-- `State.takeUp` changes at most: table, poolFree, queue, se0, se1, links, host, considerDue, freeCount. -/
@[simp] theorem State.takeUp_frame (s : State) (l : LinkId) (kind : Byte) (body : List Byte) :
    (s.takeUp l kind body).epochCount = s.epochCount ∧ (s.takeUp l kind body).epoch = s.epoch ∧
     (s.takeUp l kind body).aliases = s.aliases ∧ (s.takeUp l kind body).store = s.store ∧
     (s.takeUp l kind body).rstN = s.rstN ∧ (s.takeUp l kind body).pending = s.pending ∧
     (s.takeUp l kind body).params = s.params := by
  simp only [State.takeUp]
  (repeat' split) <;> simp

/-- `State.takeFrame` changes at most: table, poolFree, queue, se0, se1, links, host, considerDue, freeCount. -/
@[simp] theorem State.takeFrame_frame (s : State) (l : LinkId) (kind : Byte) (body : List Byte) :
    (s.takeFrame l kind body).epochCount = s.epochCount ∧ (s.takeFrame l kind body).epoch = s.epoch ∧
     (s.takeFrame l kind body).aliases = s.aliases ∧ (s.takeFrame l kind body).store = s.store ∧
     (s.takeFrame l kind body).rstN = s.rstN ∧ (s.takeFrame l kind body).pending = s.pending ∧
     (s.takeFrame l kind body).params = s.params := by
  simp only [State.takeFrame]
  (repeat' split) <;> simp

end Sys2Proof.Machine
end

