-- ==== Sys2Proof/Laws/HostPortFrames.lean ====
section
/-! SUPPORT. What the host transactions and the taking of a request leave unchanged: everything but the Host Port. -/

namespace Sys2Proof.Machine

/-- `State.withTxn` changes at most: host. -/
@[simp] theorem State.withTxn_frame (s : State) (t : Transaction) :
    (s.withTxn t).table = s.table ∧ (s.withTxn t).poolFree = s.poolFree ∧ (s.withTxn t).epochCount = s.epochCount ∧
     (s.withTxn t).epoch = s.epoch ∧ (s.withTxn t).queue = s.queue ∧ (s.withTxn t).se0 = s.se0 ∧ (s.withTxn t).se1 = s.se1 ∧
     (s.withTxn t).aliases = s.aliases ∧ (s.withTxn t).links = s.links ∧ (s.withTxn t).store = s.store ∧
     (s.withTxn t).rstN = s.rstN ∧ (s.withTxn t).considerDue = s.considerDue ∧ (s.withTxn t).freeCount = s.freeCount ∧
     (s.withTxn t).pending = s.pending ∧ (∀ i : EngineId, (s.withTxn t).sweep i = s.sweep i) ∧
     (∀ j : LinkId, (s.withTxn t).link j = s.link j) ∧ (s.withTxn t).params = s.params := by
  simp [State.withTxn]

/-- `State.storeRequest` changes at most: host. -/
@[simp] theorem State.storeRequest_frame (s : State) (kind : Byte) (body : List Byte) :
    (s.storeRequest kind body).table = s.table ∧ (s.storeRequest kind body).poolFree = s.poolFree ∧
     (s.storeRequest kind body).epochCount = s.epochCount ∧ (s.storeRequest kind body).epoch = s.epoch ∧
     (s.storeRequest kind body).queue = s.queue ∧ (s.storeRequest kind body).se0 = s.se0 ∧
     (s.storeRequest kind body).se1 = s.se1 ∧ (s.storeRequest kind body).aliases = s.aliases ∧
     (s.storeRequest kind body).links = s.links ∧ (s.storeRequest kind body).store = s.store ∧
     (s.storeRequest kind body).rstN = s.rstN ∧ (s.storeRequest kind body).considerDue = s.considerDue ∧
     (s.storeRequest kind body).freeCount = s.freeCount ∧ (s.storeRequest kind body).pending = s.pending ∧
     (∀ i : EngineId, (s.storeRequest kind body).sweep i = s.sweep i) ∧
     (∀ j : LinkId, (s.storeRequest kind body).link j = s.link j) ∧ (s.storeRequest kind body).params = s.params := by
  simp [State.storeRequest]

/-- `State.judgeLength` changes at most: host. -/
@[simp] theorem State.judgeLength_frame (s : State) (kind : Byte) (length : Nat) :
    (s.judgeLength kind length).table = s.table ∧ (s.judgeLength kind length).poolFree = s.poolFree ∧
     (s.judgeLength kind length).epochCount = s.epochCount ∧ (s.judgeLength kind length).epoch = s.epoch ∧
     (s.judgeLength kind length).queue = s.queue ∧ (s.judgeLength kind length).se0 = s.se0 ∧
     (s.judgeLength kind length).se1 = s.se1 ∧ (s.judgeLength kind length).aliases = s.aliases ∧
     (s.judgeLength kind length).links = s.links ∧ (s.judgeLength kind length).store = s.store ∧
     (s.judgeLength kind length).rstN = s.rstN ∧ (s.judgeLength kind length).considerDue = s.considerDue ∧
     (s.judgeLength kind length).freeCount = s.freeCount ∧ (s.judgeLength kind length).pending = s.pending ∧
     (∀ i : EngineId, (s.judgeLength kind length).sweep i = s.sweep i) ∧
     (∀ j : LinkId, (s.judgeLength kind length).link j = s.link j) ∧ (s.judgeLength kind length).params = s.params := by
  simp only [State.judgeLength]
  (repeat' split) <;> simp

/-- `State.receiveByte` changes at most: host. -/
@[simp] theorem State.receiveByte_frame (s : State) (r : Receive) (b : Byte) :
    (s.receiveByte r b).table = s.table ∧ (s.receiveByte r b).poolFree = s.poolFree ∧
     (s.receiveByte r b).epochCount = s.epochCount ∧ (s.receiveByte r b).epoch = s.epoch ∧ (s.receiveByte r b).queue = s.queue ∧
     (s.receiveByte r b).se0 = s.se0 ∧ (s.receiveByte r b).se1 = s.se1 ∧ (s.receiveByte r b).aliases = s.aliases ∧
     (s.receiveByte r b).links = s.links ∧ (s.receiveByte r b).store = s.store ∧ (s.receiveByte r b).rstN = s.rstN ∧
     (s.receiveByte r b).considerDue = s.considerDue ∧ (s.receiveByte r b).freeCount = s.freeCount ∧
     (s.receiveByte r b).pending = s.pending ∧ (∀ i : EngineId, (s.receiveByte r b).sweep i = s.sweep i) ∧
     (∀ j : LinkId, (s.receiveByte r b).link j = s.link j) ∧ (s.receiveByte r b).params = s.params := by
  simp only [State.receiveByte]
  (repeat' split) <;> simp

/-- `State.receiveBytes` changes at most: host. -/
@[simp] theorem State.receiveBytes_frame (s : State) (bytes : List Byte) :
    (s.receiveBytes bytes).table = s.table ∧ (s.receiveBytes bytes).poolFree = s.poolFree ∧
     (s.receiveBytes bytes).epochCount = s.epochCount ∧ (s.receiveBytes bytes).epoch = s.epoch ∧
     (s.receiveBytes bytes).queue = s.queue ∧ (s.receiveBytes bytes).se0 = s.se0 ∧ (s.receiveBytes bytes).se1 = s.se1 ∧
     (s.receiveBytes bytes).aliases = s.aliases ∧ (s.receiveBytes bytes).links = s.links ∧
     (s.receiveBytes bytes).store = s.store ∧ (s.receiveBytes bytes).rstN = s.rstN ∧
     (s.receiveBytes bytes).considerDue = s.considerDue ∧ (s.receiveBytes bytes).freeCount = s.freeCount ∧
     (s.receiveBytes bytes).pending = s.pending ∧ (∀ i : EngineId, (s.receiveBytes bytes).sweep i = s.sweep i) ∧
     (∀ j : LinkId, (s.receiveBytes bytes).link j = s.link j) ∧ (s.receiveBytes bytes).params = s.params := by
  induction bytes generalizing s with
  | nil => simp [State.receiveBytes]
  | cons b rest ih =>
    simp only [State.receiveBytes]
    (repeat' split) <;> simp [ih]

/-- `State.shiftReply` changes at most: host. -/
@[simp] theorem State.shiftReply_frame (s : State) (rest : List Byte) (ended : Bool) :
    ((s.shiftReply rest ended).1).table = s.table ∧ ((s.shiftReply rest ended).1).poolFree = s.poolFree ∧
     ((s.shiftReply rest ended).1).epochCount = s.epochCount ∧ ((s.shiftReply rest ended).1).epoch = s.epoch ∧
     ((s.shiftReply rest ended).1).queue = s.queue ∧ ((s.shiftReply rest ended).1).se0 = s.se0 ∧
     ((s.shiftReply rest ended).1).se1 = s.se1 ∧ ((s.shiftReply rest ended).1).aliases = s.aliases ∧
     ((s.shiftReply rest ended).1).links = s.links ∧ ((s.shiftReply rest ended).1).store = s.store ∧
     ((s.shiftReply rest ended).1).rstN = s.rstN ∧ ((s.shiftReply rest ended).1).considerDue = s.considerDue ∧
     ((s.shiftReply rest ended).1).freeCount = s.freeCount ∧ ((s.shiftReply rest ended).1).pending = s.pending ∧
     (∀ i : EngineId, ((s.shiftReply rest ended).1).sweep i = s.sweep i) ∧
     (∀ j : LinkId, ((s.shiftReply rest ended).1).link j = s.link j) ∧ ((s.shiftReply rest ended).1).params = s.params := by
  simp only [State.shiftReply]
  (repeat' split) <;> simp

/-- `State.shiftReplies` changes at most: host. -/
@[simp] theorem State.shiftReplies_frame (s : State) (n : Nat) :
    ((s.shiftReplies n).1).table = s.table ∧ ((s.shiftReplies n).1).poolFree = s.poolFree ∧
     ((s.shiftReplies n).1).epochCount = s.epochCount ∧ ((s.shiftReplies n).1).epoch = s.epoch ∧
     ((s.shiftReplies n).1).queue = s.queue ∧ ((s.shiftReplies n).1).se0 = s.se0 ∧ ((s.shiftReplies n).1).se1 = s.se1 ∧
     ((s.shiftReplies n).1).aliases = s.aliases ∧ ((s.shiftReplies n).1).links = s.links ∧
     ((s.shiftReplies n).1).store = s.store ∧ ((s.shiftReplies n).1).rstN = s.rstN ∧
     ((s.shiftReplies n).1).considerDue = s.considerDue ∧ ((s.shiftReplies n).1).freeCount = s.freeCount ∧
     ((s.shiftReplies n).1).pending = s.pending ∧ (∀ i : EngineId, ((s.shiftReplies n).1).sweep i = s.sweep i) ∧
     (∀ j : LinkId, ((s.shiftReplies n).1).link j = s.link j) ∧ ((s.shiftReplies n).1).params = s.params := by
  induction n generalizing s with
  | zero => simp [State.shiftReplies]
  | succ n ih =>
    simp only [State.shiftReplies]
    (repeat' split) <;> simp [ih]

/-- `State.csRise` changes at most: host. -/
@[simp] theorem State.csRise_frame (s : State) :
    (s.csRise).table = s.table ∧ (s.csRise).poolFree = s.poolFree ∧ (s.csRise).epochCount = s.epochCount ∧
     (s.csRise).epoch = s.epoch ∧ (s.csRise).queue = s.queue ∧ (s.csRise).se0 = s.se0 ∧ (s.csRise).se1 = s.se1 ∧
     (s.csRise).aliases = s.aliases ∧ (s.csRise).links = s.links ∧ (s.csRise).store = s.store ∧ (s.csRise).rstN = s.rstN ∧
     (s.csRise).considerDue = s.considerDue ∧ (s.csRise).freeCount = s.freeCount ∧ (s.csRise).pending = s.pending ∧
     (∀ i : EngineId, (s.csRise).sweep i = s.sweep i) ∧ (∀ j : LinkId, (s.csRise).link j = s.link j) ∧
     (s.csRise).params = s.params := by
  simp only [State.csRise]
  (repeat' split) <;> simp

/-- `State.openWith` changes at most: host. -/
@[simp] theorem State.openWith_frame (s : State) (cmd : Byte) :
    (s.openWith cmd).table = s.table ∧ (s.openWith cmd).poolFree = s.poolFree ∧ (s.openWith cmd).epochCount = s.epochCount ∧
     (s.openWith cmd).epoch = s.epoch ∧ (s.openWith cmd).queue = s.queue ∧ (s.openWith cmd).se0 = s.se0 ∧
     (s.openWith cmd).se1 = s.se1 ∧ (s.openWith cmd).aliases = s.aliases ∧ (s.openWith cmd).links = s.links ∧
     (s.openWith cmd).store = s.store ∧ (s.openWith cmd).rstN = s.rstN ∧ (s.openWith cmd).considerDue = s.considerDue ∧
     (s.openWith cmd).freeCount = s.freeCount ∧ (s.openWith cmd).pending = s.pending ∧
     (∀ i : EngineId, (s.openWith cmd).sweep i = s.sweep i) ∧ (∀ j : LinkId, (s.openWith cmd).link j = s.link j) ∧
     (s.openWith cmd).params = s.params := by
  simp only [State.openWith]
  (repeat' split) <;> simp

/-- `State.csFall` changes at most: host. -/
@[simp] theorem State.csFall_frame (s : State) (cmd : Byte) :
    (s.csFall cmd).table = s.table ∧ (s.csFall cmd).poolFree = s.poolFree ∧ (s.csFall cmd).epochCount = s.epochCount ∧
     (s.csFall cmd).epoch = s.epoch ∧ (s.csFall cmd).queue = s.queue ∧ (s.csFall cmd).se0 = s.se0 ∧ (s.csFall cmd).se1 = s.se1 ∧
     (s.csFall cmd).aliases = s.aliases ∧ (s.csFall cmd).links = s.links ∧ (s.csFall cmd).store = s.store ∧
     (s.csFall cmd).rstN = s.rstN ∧ (s.csFall cmd).considerDue = s.considerDue ∧ (s.csFall cmd).freeCount = s.freeCount ∧
     (s.csFall cmd).pending = s.pending ∧ (∀ i : EngineId, (s.csFall cmd).sweep i = s.sweep i) ∧
     (∀ j : LinkId, (s.csFall cmd).link j = s.link j) ∧ (s.csFall cmd).params = s.params := by
  simp only [State.csFall]
  (repeat' split) <;> simp

/-- `State.endSegment` changes at most: host. -/
@[simp] theorem State.endSegment_frame (s : State) (fall rise : Bool) (shifted : List Byte) :
    (s.endSegment fall rise shifted).table = s.table ∧ (s.endSegment fall rise shifted).poolFree = s.poolFree ∧
     (s.endSegment fall rise shifted).epochCount = s.epochCount ∧ (s.endSegment fall rise shifted).epoch = s.epoch ∧
     (s.endSegment fall rise shifted).queue = s.queue ∧ (s.endSegment fall rise shifted).se0 = s.se0 ∧
     (s.endSegment fall rise shifted).se1 = s.se1 ∧ (s.endSegment fall rise shifted).aliases = s.aliases ∧
     (s.endSegment fall rise shifted).links = s.links ∧ (s.endSegment fall rise shifted).store = s.store ∧
     (s.endSegment fall rise shifted).rstN = s.rstN ∧ (s.endSegment fall rise shifted).considerDue = s.considerDue ∧
     (s.endSegment fall rise shifted).freeCount = s.freeCount ∧ (s.endSegment fall rise shifted).pending = s.pending ∧
     (∀ i : EngineId, (s.endSegment fall rise shifted).sweep i = s.sweep i) ∧
     (∀ j : LinkId, (s.endSegment fall rise shifted).link j = s.link j) ∧ (s.endSegment fall rise shifted).params = s.params := by
  simp only [State.endSegment]
  (repeat' split) <;> simp

/-- `State.writeSegment` changes at most: host. -/
@[simp] theorem State.writeSegment_frame (s : State) (fall : Bool) (bytes : List Byte) (rise : Bool) :
    (s.writeSegment fall bytes rise).table = s.table ∧ (s.writeSegment fall bytes rise).poolFree = s.poolFree ∧
     (s.writeSegment fall bytes rise).epochCount = s.epochCount ∧ (s.writeSegment fall bytes rise).epoch = s.epoch ∧
     (s.writeSegment fall bytes rise).queue = s.queue ∧ (s.writeSegment fall bytes rise).se0 = s.se0 ∧
     (s.writeSegment fall bytes rise).se1 = s.se1 ∧ (s.writeSegment fall bytes rise).aliases = s.aliases ∧
     (s.writeSegment fall bytes rise).links = s.links ∧ (s.writeSegment fall bytes rise).store = s.store ∧
     (s.writeSegment fall bytes rise).rstN = s.rstN ∧ (s.writeSegment fall bytes rise).considerDue = s.considerDue ∧
     (s.writeSegment fall bytes rise).freeCount = s.freeCount ∧ (s.writeSegment fall bytes rise).pending = s.pending ∧
     (∀ i : EngineId, (s.writeSegment fall bytes rise).sweep i = s.sweep i) ∧
     (∀ j : LinkId, (s.writeSegment fall bytes rise).link j = s.link j) ∧ (s.writeSegment fall bytes rise).params = s.params := by
  simp only [State.writeSegment]
  (repeat' split) <;> simp

/-- `State.readSegment` changes at most: host. -/
@[simp] theorem State.readSegment_frame (s : State) (fall : Bool) (count : Nat) (rise : Bool) :
    (s.readSegment fall count rise).table = s.table ∧ (s.readSegment fall count rise).poolFree = s.poolFree ∧
     (s.readSegment fall count rise).epochCount = s.epochCount ∧ (s.readSegment fall count rise).epoch = s.epoch ∧
     (s.readSegment fall count rise).queue = s.queue ∧ (s.readSegment fall count rise).se0 = s.se0 ∧
     (s.readSegment fall count rise).se1 = s.se1 ∧ (s.readSegment fall count rise).aliases = s.aliases ∧
     (s.readSegment fall count rise).links = s.links ∧ (s.readSegment fall count rise).store = s.store ∧
     (s.readSegment fall count rise).rstN = s.rstN ∧ (s.readSegment fall count rise).considerDue = s.considerDue ∧
     (s.readSegment fall count rise).freeCount = s.freeCount ∧ (s.readSegment fall count rise).pending = s.pending ∧
     (∀ i : EngineId, (s.readSegment fall count rise).sweep i = s.sweep i) ∧
     (∀ j : LinkId, (s.readSegment fall count rise).link j = s.link j) ∧ (s.readSegment fall count rise).params = s.params := by
  simp only [State.readSegment]
  (repeat' split) <;> simp

/-- `State.statusSegment` changes at most: host. -/
@[simp] theorem State.statusSegment_frame (s : State) (fall : Bool) (count : Nat) (rise : Bool) :
    (s.statusSegment fall count rise).table = s.table ∧ (s.statusSegment fall count rise).poolFree = s.poolFree ∧
     (s.statusSegment fall count rise).epochCount = s.epochCount ∧ (s.statusSegment fall count rise).epoch = s.epoch ∧
     (s.statusSegment fall count rise).queue = s.queue ∧ (s.statusSegment fall count rise).se0 = s.se0 ∧
     (s.statusSegment fall count rise).se1 = s.se1 ∧ (s.statusSegment fall count rise).aliases = s.aliases ∧
     (s.statusSegment fall count rise).links = s.links ∧ (s.statusSegment fall count rise).store = s.store ∧
     (s.statusSegment fall count rise).rstN = s.rstN ∧ (s.statusSegment fall count rise).considerDue = s.considerDue ∧
     (s.statusSegment fall count rise).freeCount = s.freeCount ∧ (s.statusSegment fall count rise).pending = s.pending ∧
     (∀ i : EngineId, (s.statusSegment fall count rise).sweep i = s.sweep i) ∧
     (∀ j : LinkId, (s.statusSegment fall count rise).link j = s.link j) ∧ (s.statusSegment fall count rise).params = s.params := by
  simp only [State.statusSegment]
  (repeat' split) <;> simp

/-- `State.ignoredSegment` changes at most: host. -/
@[simp] theorem State.ignoredSegment_frame (s : State) (cmd : Byte) (fall : Bool) (count : Nat) (rise : Bool) :
    (s.ignoredSegment cmd fall count rise).table = s.table ∧ (s.ignoredSegment cmd fall count rise).poolFree = s.poolFree ∧
     (s.ignoredSegment cmd fall count rise).epochCount = s.epochCount ∧ (s.ignoredSegment cmd fall count rise).epoch = s.epoch ∧
     (s.ignoredSegment cmd fall count rise).queue = s.queue ∧ (s.ignoredSegment cmd fall count rise).se0 = s.se0 ∧
     (s.ignoredSegment cmd fall count rise).se1 = s.se1 ∧ (s.ignoredSegment cmd fall count rise).aliases = s.aliases ∧
     (s.ignoredSegment cmd fall count rise).links = s.links ∧ (s.ignoredSegment cmd fall count rise).store = s.store ∧
     (s.ignoredSegment cmd fall count rise).rstN = s.rstN ∧ (s.ignoredSegment cmd fall count rise).considerDue = s.considerDue ∧
     (s.ignoredSegment cmd fall count rise).freeCount = s.freeCount ∧
     (s.ignoredSegment cmd fall count rise).pending = s.pending ∧
     (∀ i : EngineId, (s.ignoredSegment cmd fall count rise).sweep i = s.sweep i) ∧
     (∀ j : LinkId, (s.ignoredSegment cmd fall count rise).link j = s.link j) ∧
     (s.ignoredSegment cmd fall count rise).params = s.params := by
  simp only [State.ignoredSegment]
  (repeat' split) <;> simp

/-- `State.beginRequest` changes at most: host. -/
@[simp] theorem State.beginRequest_frame (s : State) :
    (s.beginRequest).table = s.table ∧ (s.beginRequest).poolFree = s.poolFree ∧ (s.beginRequest).epochCount = s.epochCount ∧
     (s.beginRequest).epoch = s.epoch ∧ (s.beginRequest).queue = s.queue ∧ (s.beginRequest).se0 = s.se0 ∧
     (s.beginRequest).se1 = s.se1 ∧ (s.beginRequest).aliases = s.aliases ∧ (s.beginRequest).links = s.links ∧
     (s.beginRequest).store = s.store ∧ (s.beginRequest).rstN = s.rstN ∧ (s.beginRequest).considerDue = s.considerDue ∧
     (s.beginRequest).freeCount = s.freeCount ∧ (s.beginRequest).pending = s.pending ∧
     (∀ i : EngineId, (s.beginRequest).sweep i = s.sweep i) ∧ (∀ j : LinkId, (s.beginRequest).link j = s.link j) ∧
     (s.beginRequest).params = s.params := by
  simp only [State.beginRequest]
  (repeat' split) <;> simp

/-- `State.joinReply` changes at most: host. -/
@[simp] theorem State.joinReply_frame (s : State) (r : Reply) :
    (s.joinReply r).table = s.table ∧ (s.joinReply r).poolFree = s.poolFree ∧ (s.joinReply r).epochCount = s.epochCount ∧
     (s.joinReply r).epoch = s.epoch ∧ (s.joinReply r).queue = s.queue ∧ (s.joinReply r).se0 = s.se0 ∧
     (s.joinReply r).se1 = s.se1 ∧ (s.joinReply r).aliases = s.aliases ∧ (s.joinReply r).links = s.links ∧
     (s.joinReply r).store = s.store ∧ (s.joinReply r).rstN = s.rstN ∧ (s.joinReply r).considerDue = s.considerDue ∧
     (s.joinReply r).freeCount = s.freeCount ∧ (s.joinReply r).pending = s.pending ∧
     (∀ i : EngineId, (s.joinReply r).sweep i = s.sweep i) ∧ (∀ j : LinkId, (s.joinReply r).link j = s.link j) ∧
     (s.joinReply r).params = s.params := by
  simp [State.joinReply]

end Sys2Proof.Machine
end

