-- ==== Sys2Proof/Laws/Links.lean ====
section
/-! SUPPORT. What a removal from a probe link's outbound queue does, said once, by the free value that its claim reads. -/

namespace Sys2Proof.Machine

variable (s : State) (l : LinkId) (p : OutMsg → Bool)

/-- A removal from one link's queue leaves the other links as they were. -/
theorem State.removeOut_link_other {m : LinkId} (h : m ≠ l) : (s.removeOut l p).link m = s.link m := by
  simp only [State.removeOut]
  (repeat' split) <;> simp [State.withLink_link_ne, h]

/-- A removal changes nothing of its link but the outbound queue. -/
theorem State.removeOut_link_rest : { (s.removeOut l p).link l with out := (s.link l).out } = s.link l := by
  simp only [State.removeOut]
  (repeat' split) <;> simp

/-- With no frame in transmission, exactly the messages that meet the condition leave. -/
theorem State.removeOut_out_idle (h : Config.headInTransmission s.freeCount l = false) :
    ((s.removeOut l p).link l).out = (s.link l).out.filter fun m => !p m := by
  simp only [State.removeOut]
  split
  case h_1 e => simp [e]
  case h_2 m rest e => by_cases hp : p m = true <;> simp [e, hp, h]

/-- With the head message in transmission, it stays: only finishing on the wire where it meets the condition. -/
theorem State.removeOut_out_sending (h : Config.headInTransmission s.freeCount l = true) {m : OutMsg} {rest : List OutMsg}
    (e : (s.link l).out = m :: rest) :
    ((s.removeOut l p).link l).out = (if p m then { m with orphan := true } else m) :: rest.filter fun x => !p x := by
  simp only [State.removeOut, e]
  by_cases hp : p m = true <;> simp [hp, h]

/-- What does not meet the condition stays, in order. -/
theorem State.removeOut_out_sublist : ((s.link l).out.filter fun m => !p m).Sublist ((s.removeOut l p).link l).out := by
  cases h : Config.headInTransmission s.freeCount l with
  | false => rw [State.removeOut_out_idle s l p h]
  | true =>
    cases e : (s.link l).out with
    | nil => simp
    | cons m rest =>
      rw [State.removeOut_out_sending s l p h e]
      by_cases hm : p m = true <;> simp [hm]

/-- The messages of a class that the removal does not reach are as they were, in order. -/
theorem State.removeOut_out_filter {q : OutMsg → Bool} (hq : ∀ m, p m = true → q m = false ∧ q { m with orphan := true } = false) :
    ((s.removeOut l p).link l).out.filter q = (s.link l).out.filter q := by
  have drop (ms : List OutMsg) : (ms.filter fun m => !p m).filter q = ms.filter q := by
    rw [List.filter_filter]
    refine List.filter_congr fun m _ => ?_
    cases hm : p m <;> simp [hq m, hm]
  cases h : Config.headInTransmission s.freeCount l with
  | false => rw [State.removeOut_out_idle s l p h, drop]
  | true =>
    cases e : (s.link l).out with
    | nil => simp [State.removeOut, e]
    | cons m rest =>
      rw [State.removeOut_out_sending s l p h e, List.filter_cons, List.filter_cons, drop]
      by_cases hm : p m = true <;> simp [hm, hq m]

/-- A removal makes only the head message one that finishes on the wire. -/
theorem State.removeOut_onlyHead (hp : ∀ m, p m = true → m.orphan = false) :
    OnlyHeadFinishes (s.link l).out ((s.removeOut l p).link l).out := by
  intro x hx ho
  cases h : Config.headInTransmission s.freeCount l with
  | false =>
    rw [State.removeOut_out_idle s l p h] at hx
    exact .inl (List.mem_of_mem_filter hx)
  | true =>
    cases e : (s.link l).out with
    | nil => simp [State.removeOut, e] at hx
    | cons m rest =>
      rw [State.removeOut_out_sending s l p h e, List.mem_cons] at hx
      rcases hx with rfl | hx
      · by_cases hm : p m = true
        · right
          have := hp m hm
          cases m
          simp_all
        · simp [hm]
      · exact .inl (List.mem_cons_of_mem _ (List.mem_of_mem_filter hx))

end Sys2Proof.Machine
end

