-- ==== Sys2Proof/Laws/Table.lean ====
section
/-! SUPPORT. The Record Table's operations: what a slot holds after each, that the order and the distinct keys are kept, and what the
find by key and the find of a free slot answer. -/

namespace Sys2Proof.Machine

/-! ## What a slot holds -/

@[simp] theorem Table.get_nil (slot : Nat) : Table.get [] slot = none := rfl

theorem Table.get_cons (n : Nat) (r : Record) (t : Table) (slot : Nat) :
    Table.get ((n, r) :: t) slot = if n = slot then some r else Table.get t slot := by
  by_cases h : n = slot <;> simp [Table.get, h]

theorem Table.get_modify (t : Table) (slot m : Nat) (f : Record → Record) :
    Table.get (Table.modify t slot f) m = if m = slot then (Table.get t m).map f else Table.get t m := by
  induction t with
  | nil => simp [Table.modify]
  | cons e t ih =>
    obtain ⟨n, r⟩ := e
    have step : Table.modify ((n, r) :: t) slot f = (n, if n = slot then f r else r) :: Table.modify t slot f := by
      by_cases h : n = slot <;> simp [Table.modify, h]
    rw [step, Table.get_cons, Table.get_cons, ih]
    by_cases h : n = m <;> by_cases h' : m = slot <;> simp_all

theorem Table.get_erase (t : Table) (slot m : Nat) :
    Table.get (Table.erase t slot) m = if m = slot then none else Table.get t m := by
  induction t with
  | nil => simp [Table.erase]
  | cons e t ih =>
    obtain ⟨n, r⟩ := e
    by_cases h : n = slot
    · have step : Table.erase ((n, r) :: t) slot = Table.erase t slot := by simp [Table.erase, h]
      rw [step, ih, Table.get_cons]
      by_cases h' : m = slot <;> simp_all [eq_comm]
    · have step : Table.erase ((n, r) :: t) slot = (n, r) :: Table.erase t slot := by simp [Table.erase, h]
      rw [step, Table.get_cons, Table.get_cons, ih]
      by_cases h' : n = m <;> simp_all

theorem Table.get_map (t : Table) (f : Nat → Record → Record) (m : Nat) :
    Table.get (t.map fun e => (e.1, f e.1 e.2)) m = (Table.get t m).map (f m) := by
  induction t with
  | nil => rfl
  | cons e t ih =>
    obtain ⟨n, r⟩ := e
    rw [List.map_cons, Table.get_cons, Table.get_cons, ih]
    by_cases h : n = m <;> simp [h]

theorem Table.get_put (t : Table) (slot m : Nat) (r : Record) :
    Table.get (Table.put t slot r) m = if m = slot then some r else Table.get t m := by
  induction t with
  | nil => simp [Table.put, Table.get_cons, eq_comm]
  | cons e t ih =>
    obtain ⟨n, x⟩ := e
    simp only [Table.put]
    split
    · rw [Table.get_cons]; by_cases h : m = slot <;> simp_all [eq_comm]
    · split
      · rw [Table.get_cons, Table.get_cons]; by_cases h : m = slot <;> simp_all [eq_comm]
      · rw [Table.get_cons, Table.get_cons, ih]; by_cases h : m = slot <;> by_cases h' : n = m <;> simp_all

theorem Table.mem_of_get {t : Table} {slot : Nat} {r : Record} (h : Table.get t slot = some r) : (slot, r) ∈ t := by
  induction t with
  | nil => simp at h
  | cons e t ih =>
    obtain ⟨n, x⟩ := e
    rw [Table.get_cons] at h
    split at h
    · simp_all
    · exact List.mem_cons_of_mem _ (ih h)

theorem Table.get_of_mem {t : Table} (order : t.Pairwise fun a b => a.1 < b.1) {slot : Nat} {r : Record} (h : (slot, r) ∈ t) :
    Table.get t slot = some r := by
  induction t with
  | nil => simp at h
  | cons e t ih =>
    obtain ⟨n, x⟩ := e
    rw [List.pairwise_cons] at order
    rw [Table.get_cons]
    rcases List.mem_cons.1 h with h | h
    · simp_all
    · have := order.1 _ h
      rw [if_neg (by omega), ih order.2 h]

/-! ## Order and distinct keys -/

theorem Table.modify_wf {t : Table} (slot : Nat) (f : Record → Record) (keepsKey : ∀ r, (f r).key = r.key) :
    (t.Pairwise (fun a b => a.1 < b.1) → (Table.modify t slot f).Pairwise fun a b => a.1 < b.1)
      ∧ ((∀ e ∈ t, e.1 < 512) → ∀ e ∈ Table.modify t slot f, e.1 < 512)
      ∧ (t.Pairwise (fun a b => a.2.key ≠ b.2.key) → (Table.modify t slot f).Pairwise fun a b => a.2.key ≠ b.2.key) := by
  have slots : ∀ e : Nat × Record, (if e.1 = slot then (e.1, f e.2) else e).1 = e.1 := fun e => by split <;> rfl
  have keys : ∀ e : Nat × Record, (if e.1 = slot then (e.1, f e.2) else e).2.key = e.2.key := fun e => by
    split <;> simp [keepsKey]
  refine ⟨fun h => ?_, fun h e he => ?_, fun h => ?_⟩
  · exact List.pairwise_map.2 (h.imp fun {a b} hab => by simpa only [slots] using hab)
  · obtain ⟨x, hx, rfl⟩ := List.mem_map.1 he
    simpa only [slots] using h x hx
  · exact List.pairwise_map.2 (h.imp fun {a b} hab => by simpa only [keys] using hab)

/-- A change of a record that keeps its key keeps the table's form. -/
theorem State.modRecord_tableOk {s : State} (slot : Nat) (f : Record → Record) (keepsKey : ∀ r, (f r).key = r.key) (h : s.TableOk) :
    (s.modRecord slot f).TableOk :=
  ⟨(Table.modify_wf slot f keepsKey).1 h.1, (Table.modify_wf slot f keepsKey).2.1 h.2.1, (Table.modify_wf slot f keepsKey).2.2 h.2.2⟩

theorem Table.mem_put {t : Table} {slot : Nat} {r : Record} {e : Nat × Record} (h : e ∈ Table.put t slot r) :
    e = (slot, r) ∨ e ∈ t := by
  induction t with
  | nil => simpa [Table.put] using h
  | cons x t ih =>
    obtain ⟨n, y⟩ := x
    simp only [Table.put] at h
    split at h
    · simpa using h
    · split at h
      · rcases List.mem_cons.1 h with h | h
        · exact .inl h
        · exact .inr (List.mem_cons_of_mem _ h)
      · rcases List.mem_cons.1 h with h | h
        · exact .inr (by simp [h])
        · exact (ih h).imp id (List.mem_cons_of_mem _)

/-- A record with a new key placed in a slot below 512 keeps the table's form. -/
theorem Table.put_wf {t : Table} {slot : Nat} {r : Record} (low : slot < 512) (fresh : ∀ e ∈ t, e.2.key ≠ r.key)
    (h : t.Pairwise (fun a b => a.1 < b.1) ∧ (∀ e ∈ t, e.1 < 512) ∧ t.Pairwise (fun a b => a.2.key ≠ b.2.key)) :
    (Table.put t slot r).Pairwise (fun a b => a.1 < b.1) ∧ (∀ e ∈ Table.put t slot r, e.1 < 512)
      ∧ (Table.put t slot r).Pairwise (fun a b => a.2.key ≠ b.2.key) := by
  refine ⟨?_, ?_, ?_⟩
  · have order := h.1
    clear h fresh low
    induction t with
    | nil => simp [Table.put]
    | cons x t ih =>
      obtain ⟨n, y⟩ := x
      rw [List.pairwise_cons] at order
      simp only [Table.put]
      split
      · rename_i hlt
        exact List.pairwise_cons.2 ⟨fun e he => by
          rcases List.mem_cons.1 he with rfl | he
          · exact hlt
          · exact lt_trans hlt (order.1 _ he), List.pairwise_cons.2 order⟩
      · split
        · rename_i heq
          exact List.pairwise_cons.2 ⟨fun e he => heq ▸ order.1 e he, order.2⟩
        · exact List.pairwise_cons.2 ⟨fun e he => by
            rcases Table.mem_put he with rfl | he
            · simp; omega
            · exact order.1 e he, ih order.2⟩
  · intro e he
    rcases Table.mem_put he with rfl | he
    · exact low
    · exact h.2.1 e he
  · have keys := h.2.2
    clear h low
    induction t with
    | nil => simp [Table.put]
    | cons x t ih =>
      obtain ⟨n, y⟩ := x
      rw [List.pairwise_cons] at keys
      have freshHead : y.key ≠ r.key := fresh (n, y) (by simp)
      have freshTail : ∀ e ∈ t, e.2.key ≠ r.key := fun e he => fresh e (List.mem_cons_of_mem _ he)
      simp only [Table.put]
      split
      · refine List.pairwise_cons.2 ⟨fun e he => ?_, List.pairwise_cons.2 keys⟩
        exact (fresh e he).symm
      · split
        · exact List.pairwise_cons.2 ⟨fun e he => (freshTail e he).symm, keys.2⟩
        · refine List.pairwise_cons.2 ⟨fun e he => ?_, ih freshTail keys.2⟩
          rcases Table.mem_put he with rfl | he
          · exact freshHead
          · exact keys.1 e he

/-- Freeing a slot keeps the table's form. -/
theorem Table.erase_wf {t : Table} (slot : Nat)
    (h : t.Pairwise (fun a b => a.1 < b.1) ∧ (∀ e ∈ t, e.1 < 512) ∧ t.Pairwise (fun a b => a.2.key ≠ b.2.key)) :
    (Table.erase t slot).Pairwise (fun a b => a.1 < b.1) ∧ (∀ e ∈ Table.erase t slot, e.1 < 512)
      ∧ (Table.erase t slot).Pairwise (fun a b => a.2.key ≠ b.2.key) :=
  ⟨h.1.sublist List.filter_sublist, fun e he => h.2.1 e (List.mem_of_mem_filter he), h.2.2.sublist List.filter_sublist⟩

/-! ## The two finds -/

/-- A find by key answers a record that holds the key. -/
theorem Table.findKey_some {t : Table} {k : Key} {slot : Nat} {r : Record} (h : Table.findKey t k = some (slot, r)) :
    (slot, r) ∈ t ∧ r.key = k := by
  have := List.find?_some h
  exact ⟨List.mem_of_find?_eq_some h, by simpa using this⟩

/-- A find by key answers none exactly where no record holds the key. -/
theorem Table.findKey_none {t : Table} {k : Key} : Table.findKey t k = none ↔ ∀ e ∈ t, e.2.key ≠ k := by
  simp [Table.findKey]

/-- Where keys are distinct, a find by key answers the record that holds it. -/
theorem Table.findKey_of_mem {t : Table} (keys : t.Pairwise fun a b => a.2.key ≠ b.2.key) {slot : Nat} {r : Record}
    (h : (slot, r) ∈ t) : Table.findKey t r.key = some (slot, r) := by
  induction t with
  | nil => simp at h
  | cons e t ih =>
    rw [List.pairwise_cons] at keys
    rcases List.mem_cons.1 h with h | h
    · subst h; simp [Table.findKey]
    · have : e.2.key ≠ r.key := keys.1 _ h
      have := ih keys.2 h
      simp_all [Table.findKey]

theorem State.findKey_of_holds {s : State} {key : Key} {slot : Nat} {r : Record} (h : s.Holds key slot r) :
    Table.findKey s.table key = some (slot, r) :=
  h.2.2 ▸ Table.findKey_of_mem h.1.2.2 h.2.1

theorem State.get_of_holds {s : State} {key : Key} {slot : Nat} {r : Record} (h : s.Holds key slot r) :
    Table.get s.table slot = some r := Table.get_of_mem h.1.1 h.2.1

theorem State.findKey_of_lacks {s : State} {key : Key} (h : s.Lacks key) : Table.findKey s.table key = none :=
  Table.findKey_none.2 h

theorem Table.freeFrom_some {t : Table} {count slot n : Nat} :
    Table.freeFrom t count slot = some n ↔
      slot ≤ n ∧ n < slot + count ∧ Table.get t n = none ∧ ∀ m, slot ≤ m → m < n → Table.get t m ≠ none := by
  induction count generalizing slot with
  | zero => simp [Table.freeFrom]; omega
  | succ count ih =>
    simp only [Table.freeFrom]
    split
    · rename_i h
      rw [Option.isNone_iff_eq_none] at h
      constructor
      · rintro ⟨⟩
        exact ⟨le_refl _, by omega, h, fun m h₁ h₂ => by omega⟩
      · rintro ⟨h₁, -, -, h₄⟩
        rcases Nat.lt_or_ge slot n with hlt | hge
        · exact absurd h (h₄ slot (le_refl _) hlt)
        · exact congrArg some (by omega)
    · rename_i h
      rw [Option.isNone_iff_eq_none] at h
      rw [ih]
      constructor
      · rintro ⟨h₁, h₂, h₃, h₄⟩
        refine ⟨by omega, by omega, h₃, fun m hm hmn => ?_⟩
        rcases Nat.lt_or_ge slot m with hlt | hge
        · exact h₄ m hlt hmn
        · rwa [show m = slot by omega]
      · rintro ⟨h₁, h₂, h₃, h₄⟩
        refine ⟨?_, by omega, h₃, fun m hm hmn => h₄ m (by omega) hmn⟩
        rcases Nat.lt_or_ge slot n with hlt | hge
        · exact hlt
        · have : n = slot := by omega
          exact absurd (this ▸ h₃) h

/-- The find of a free slot answers the lowest-numbered one (R28). -/
theorem State.lowestFree_some {s : State} {n : Nat} : Table.lowestFree s.table = some n ↔ s.LowestFree n := by
  rw [Table.lowestFree, Table.freeFrom_some]
  simp only [Nat.zero_add, Nat.zero_le, true_and, forall_const]

/-- It answers none exactly in a full table. -/
theorem Table.lowestFree_none {t : Table} : Table.lowestFree t = none ↔ ∀ n < 512, Table.get t n ≠ none := by
  constructor
  · intro h n hn hfree
    have : ∃ m, Table.get t m = none ∧ m ≤ n ∧ ∀ k < m, Table.get t k ≠ none := by
      classical
      have ex : ∃ m, Table.get t m = none := ⟨n, hfree⟩
      exact ⟨Nat.find ex, Nat.find_spec ex, Nat.find_le hfree, fun k hk => Nat.find_min ex hk⟩
    obtain ⟨m, h₁, h₂, h₃⟩ := this
    have := (Table.freeFrom_some (t := t) (count := 512) (slot := 0) (n := m)).2 ⟨by omega, by omega, h₁, fun k _ hk => h₃ k hk⟩
    rw [Table.lowestFree] at h
    exact absurd (h.symm.trans this) (by simp)
  · intro h
    rcases hf : Table.lowestFree t with _ | n
    · rfl
    · have := (Table.freeFrom_some (t := t) (count := 512) (slot := 0) (n := n)).1 hf
      exact absurd this.2.2.1 (h n (by omega))

end Sys2Proof.Machine
end

