-- ==== Sys2Proof/Laws/Requests.lean ====
section
/-! SUPPORT. What taking a request does, said once: where it can be taken, and the Host Port it leaves. -/

namespace Sys2Proof.Machine

theorem whileRunning_of_high {s t : State} (h : s.rstN = true) : whileRunning s t = .next t := by simp [whileRunning, h]

theorem whileRunning_of_low {s t : State} (h : s.rstN = false) : whileRunning s t = .next s := by simp [whileRunning, h]

/-- The Host Port while one request is being taken. -/
theorem State.beginRequest_eq (s : State) :
    s.beginRequest =
      { s with
        host :=
          { s.host with
            requests := s.host.requests.tail
            inboundFree := s.host.inboundFree + ((s.host.requests.take 1).map fun q => 3 + q.body.length).sum
            heldPlace := true } } := by
  simp only [State.beginRequest, State.withHost]
  split <;> simp_all

/-- A request that can be taken is acted on once and answered. -/
theorem State.takeRequest_of_takes {s : State} {kind : Byte} {body : List Byte} (h : s.Takes kind body)
    (act : List Byte → State → Answer) :
    s.takeRequest kind body act = (act body s.beginRequest).state.joinReply ((act body s.beginRequest).reply kind body) := by
  obtain ⟨-, room, h⟩ := h
  have can : s.canTake kind body = true := by
    simp only [State.canTake]
    rcases h with h | ⟨h, free, fits⟩
    · rcases hr : s.host.requests with _ | ⟨r, rest⟩
      · simp [hr] at h
      · rw [hr, List.head?_cons, Option.some.injEq] at h
        subst h
        simpa using room
    · rw [h]
      simp [room, free, fits]
  rw [State.takeRequest, if_pos can]

/-- While the outbound queue is full, no request is taken (R166). -/
theorem State.takeRequest_of_full {s : State} (h : 48 ≤ s.host.out.length) (kind : Byte) (body : List Byte)
    (act : List Byte → State → Answer) : s.takeRequest kind body act = s := by
  have : s.canTake kind body = false := by
    simp only [State.canTake]
    rw [decide_eq_false (show ¬s.host.out.length < 48 by omega), Bool.false_and]
  rw [State.takeRequest, this, if_neg Bool.false_ne_true]

/-- A state whose Host Port is still that of the request being taken is answered without a notice. -/
theorem State.joinReply_host {s t : State} (h : t.host = s.beginRequest.host) (r : Reply) :
    t.joinReply r = { t with host := s.replied r } := by
  simp only [State.joinReply, State.withHost, h, State.beginRequest_eq, State.replied, State.answered, HostPort.emitted,
    List.foldl_nil]

/-- A request that is only answered changes the Host Port alone. -/
theorem State.joinReply_begin (s : State) (r : Reply) : s.beginRequest.joinReply r = { s with host := s.replied r } := by
  rw [State.joinReply_host rfl]
  simp [State.beginRequest_eq]

end Sys2Proof.Machine
end

