-- ==== Sys2Proof/Tests/Slice0.lean ====
section
/-! SUPPORT. The model's own tests: ill-formed commands, steps with results the manual gives, and for each statement with hypotheses a
state and operands that meet them. -/

namespace Sys2Proof.Tests

open Sys2Proof Sys2Proof.Machine

/-! ## WellFormed: one ill-formed term for each check -/

/-- A body one byte longer than a request write can deliver. -/
def longBody : List Byte := List.replicate 261 0x00#8

theorem test_kind_commands_are_not_unknown :
    (Instr.commandByteUnknown 0x6E#8 true 0 true).wellFormed = false
      ∧ (Instr.commandByteUnknown 0x9B#8 true 0 true).wellFormed = false
      ∧ (Instr.commandByteUnknown 0x3C#8 true 0 true).wellFormed = false := by decide

theorem test_known_kinds_are_not_unknown : (Instr.unknownKind 0x14#8 [0x01#8]).wellFormed = false := by decide

theorem test_long_bodies_are_refused :
    ∀ c ∈ [Instr.unknownKind 0x15#8 longBody, .create longBody, .load longBody, .read longBody, .retire longBody, .refresh longBody,
      .refreshScope longBody, .scan longBody, .aliasSet longBody, .aliasClear longBody, .aliasRead longBody, .tonePlanSet longBody,
      .tonePlanRead longBody, .levelSet longBody, .levelRead longBody, .configSet longBody, .configGet longBody, .status longBody,
      .setPolicyRefused longBody, .linkControlRefused longBody, .softResetRefused longBody], Instr.wellFormed c = false := by
  have long : longBody.length = 261 := List.length_replicate
  simp [Instr.wellFormed, requestBodyFits, long]

theorem test_slot_above_511_is_refused : (Instr.retryCountdownExpiry 512).wellFormed = false := by decide

theorem test_long_frames_are_refused :
    (Instr.helloAck 0 (List.replicate 41 0x00#8)).wellFormed = false
      ∧ (Instr.unknownFrameKind 0 0x30#8 (List.replicate 41 0x00#8)).wellFormed = false := by decide

theorem test_named_frames_are_not_unknown :
    ∀ e ∈ [(0x11#8, 5), (0x12#8, 4), (0x13#8, 6), (0x14#8, 1), (0x15#8, 2), (0x16#8, 0)],
      (Instr.unknownFrameKind 0 e.1 (List.replicate e.2 0x00#8)).wellFormed = false := by decide

theorem test_forms_with_rows_of_their_own_are_not_refused :
    (Instr.setPolicyRefused [1, 0, 0, 0, 0, 1, 0]).wellFormed = false ∧ (Instr.linkControlRefused [1, 0, 0]).wellFormed = false
      ∧ (Instr.softResetRefused [1, 1]).wellFormed = false := by decide

/-! ## States to test on -/

/-- A record with values of a sweep, VALID and IDLE. -/
def sample (key : Key) : Record :=
  { key := key, state := .valid, policy := .auto, pin := false
    held := some { values := { offsetI := -200, offsetQ := 40, scale := 36100, trim := 9 }, origin := .sweep }
    generation := 0x07#8, age := 12, interval := 60, streak := 1, failCount := 0, standing := .idle, lastUse := 5, profile := none }

def keyA : Key := { link := 1, channel := 2, tone := 1, gain := 3 }
def keyB : Key := { link := 1, channel := 3, tone := 0, gain := 0 }
def keyC : Key := { link := 0, channel := 0, tone := 0, gain := 0 }
def keyD : Key := { link := 1, channel := 4, tone := 2, gain := 11 }

/-- A sweep of `keyA` in slot 7, whose request 40 is out. -/
def sampleSweep : Sweep :=
  { mode := .measure, slot := 7, key := keyA, cause := .scheduled
    plan := { phaseInit := 0, phaseStep := 512, pointCount := 8, capture := true }
    level := 0, restarts := 0, runAmplitude := some 40000, step := .point 1, zero := some (-212, 37)
    points := [{ magnitude := 36200, phase := 4086 }], retries := 0, declines := 0, awaited := some 0x28#8, timer := .stopped }

/-- The answer to a lookup with tag 2. -/
def openAnswer : Correction := { tag := 2, status := .miss, aliased := false, created := false, generation := 0, values := none }

/-- The request that `sampleSweep` awaits. -/
def sampleRequest : CalRequest := { sequence := 0x28#8, channel := 2, tone := 1, gain := 3, injection := some (512, 40000) }

/-- Link 1 UP, with a lookup's answer and a request on the way. -/
def upLink : Link :=
  { state := .up, partner := some { level := 0x01#8, channels := 0x08#8, toneMask := 0x3F#8 }, sequence := 0x29#8
    awaited := some 0x28#8, timeouts := 1, faults := 2, tags := [2]
    out := [{ body := .correction openAnswer, orphan := false }, { body := .calRequest sampleRequest, orphan := false }]
    hello := none, refusalReported := false, rx := [], txLast := [] }

/-- A part at work: SE0 sweeps slot 7, slot 9 is queued, slot 12 counts a retry down, slot 3 is FIXED; a command waits. -/
def busy : State :=
  { State.reset with
    table :=
      [(3, { sample keyC with policy := .fixed }),
        (7,
          { sample keyA with
            state := .due
            standing := .sweeping .se0
            profile := some { level := 0, points := [{ magnitude := 1, phase := 2 }] } }),
        (9, { sample keyB with state := .pending, held := none, generation := 0, standing := .queued .first }),
        (12, { sample keyD with state := .suspect, failCount := 1, standing := .retry 1 })]
    poolFree := 2047
    epochCount := 12
    queue := { prio := [{ slot := 9, key := keyB, cause := .first }], back := [] }
    se0 := some sampleSweep
    links := #v[Link.reset 0, upLink, Link.reset 2, { Link.reset 3 with state := .off, hello := none, out := [] }]
    host := { HostPort.reset with out := [.notice (.hostFraming .length 0x05#8 3)] }
    pending := [.dispatch] }

/-- `busy` with a second record of link 0 under no sweep, and link 0 UP. -/
def calm : State :=
  { busy with
    table := [(3, sample keyC)]
    queue := { prio := [], back := [] }
    se0 := none
    links :=
      #v[{ upLink with awaited := none, tags := [], out := [] }, { upLink with awaited := none, tags := [], out := [] }, Link.reset 2,
        { Link.reset 3 with state := .off, hello := none, out := [] }]
    poolFree := 2048 }

/-! ## Steps with the manual's results -/

/-- The state after a command, `s` itself where none is answered. -/
def after (c : Instr) (s : State) : State :=
  match exec c s with
  | .next t => t
  | _ => s

/-- 5.14: the eight points of the example. -/
def points514 : List Point :=
  [⟨36200, 4086⟩, ⟨36400, 500⟩, ⟨36100, 1015⟩, ⟨36300, 1525⟩, ⟨36600, 2034⟩, ⟨36000, 2552⟩, ⟨36200, 3062⟩, ⟨36440, 3571⟩]

/-- What a computation gives: values, or the failure reason. -/
def computed (w : Sweep) : Option Values × Option FailReason :=
  match w.compute 40 with
  | .ok v => (some v, none)
  | .error reason => (none, some reason)

theorem test_computation_of_5_14 :
    computed { sampleSweep with points := points514 } = (some { offsetI := -212, offsetQ := 37, scale := 36127, trim := 10 }, none) := by
  decide +kernel

theorem test_spread_failure_of_5_14 :
    computed { sampleSweep with points := points514.set 4 ⟨36600, 1990⟩ } = (none, some .spread) := by decide

theorem test_computation_of_11_2 :
    computed
        { sampleSweep with
          plan := { phaseInit := 0, phaseStep := 1024, pointCount := 4, capture := true }
          runAmplitude := some 20000
          zero := some (-150, 22)
          points := [⟨19800, 4090⟩, ⟨19900, 1018⟩, ⟨19700, 2041⟩, ⟨20000, 3066⟩] }
      = (some { offsetI := -150, offsetQ := 22, scale := 33015, trim := 6 }, none) := by decide

/-- R84: phase init 100, phase step 1000, five points. -/
theorem test_phases_of_R84 :
    (List.range 5).map ({ phaseInit := 100, phaseStep := 1000, pointCount := 5, capture := false } : TonePlan).phaseOf
      = [100, 1100, 2100, 3100, 4] := by decide

/-- 3.5: old trim 2040 against −2048, which wraps to 8, and −2044, which wraps to 12. -/
theorem test_trim_wraps_of_3_5 :
    [(-2048 : Int), -2044].map (fun trim =>
        agrees Params.defaults (some { values := { offsetI := 0, offsetQ := 0, scale := 1, trim := 2040 }, origin := .sweep })
          { offsetI := 0, offsetQ := 0, scale := 1, trim := trim })
      = [true, false] := by decide

/-- 3.5: the intervals of commits 2 to 8, each from the streak before it. -/
theorem test_interval_growth_of_3_5 :
    [(0, 60), (1, 60), (2, 120), (3, 240), (4, 480), (5, 960), (6, 1800)].map (fun e => intervalAfter Params.defaults true e.1 e.2)
      = [60, 120, 240, 480, 960, 1800, 1800] := by decide

/-- 2.9: of two stamps 1200 the lower slot is evicted; a pinned, a swept and a FIXED record are passed over. -/
theorem test_eviction_order_of_2_9 :
    (Table.evictionCandidate
        [(3, { sample { keyC with channel := 4 } with lastUse := 1200 }), (17, { sample keyC with pin := true, lastUse := 900 }),
          (40, { sample keyA with standing := .sweeping .se0, lastUse := 850 }), (88, { sample keyB with lastUse := 1200 }),
          (301, { sample keyD with policy := .fixed, lastUse := 700 })]).map (·.1) = some 3 := by decide

/-- 7.11: GOODBYE on a link with a sweep and open lookups: the sweep's notice joins ahead of the link's. -/
theorem test_goodbye_of_7_11 :
    ((after (.goodbye 1) { busy with store := { Store.defaults with params := { Params.defaults with noticeMask := 0x7F } } }).host.out.drop 1)
      = [.notice (.sweepEnd .se0 keyA (.failed .link) 0 0 false), .notice (.linkState 1 .down .partner 0 0 0 2 1)] := by decide

/-- 11.4: a late result under a number that the link does not await changes nothing but the receiver. -/
theorem test_late_result_of_11_4 : after (.calResult 1 0x27#8 0x00#8 0x0001#16 0x0001#16) busy = busy := by decide

/-- R164, R165, R196: a STATUS request written to the port, taken, and the head of its reply read back. -/
theorem test_status_through_the_port :
    let written := after (.requestWrite true [0x13#8, 0x00#8, 0x01#8, 0x55#8] true) State.reset
    let taken := after (.status [0x55#8]) written
    (after (.replyRead true 7 false) taken).host.miso = [0x00#8, 0xA0#8, 0x00#8, 0x28#8, 0x13#8, 0x55#8, 0x00#8, 0x00#8]
      ∧ taken.attnHigh = false := by decide

/-- R51, R52: an expiry ages a record. -/
theorem test_epoch_ages_records : (after .epochExpiry calm).table = [(3, { sample keyC with age := 13 })] := by decide

/-- R169: LINK_STATE and RECORD_FAULTED are on by default, SWEEP_END and STALE_ENTERED are off. -/
theorem test_default_notice_mask :
    [0, 1, 2, 3, 4, 5, 6].map (namesWide Params.defaults.noticeMask) = [true, true, false, true, false, true, true] := by decide

/-! ## Witnesses: for each statement with hypotheses, a state and operands that meet them -/

/-! ### Invariants: `busy` meets each of them, and its step answers -/

theorem witness_step_of_busy : ∃ t, step busy = .next t ∧ busy.pending ≠ [] := ⟨_, rfl, by decide⟩

theorem witness_TableStaysOrderedWithDistinctKeys : busy.TableOk := by decide

theorem witness_PointPoolStaysConserved : busy.PoolOk := by decide

theorem witness_RecordsStaySound : busy.RecordsOk := by decide

theorem witness_IntervalsStayWithinCadence : busy.IntervalsOk := by decide

theorem witness_HostPortBuffersStayBounded : busy.host.OutboundOk ∧ busy.host.InboundOk :=
  ⟨by decide, by decide, trivial⟩

theorem witness_RefreshStandingsStayCoherent : busy.RefreshOk := by decide

theorem witness_SweepsStayExclusivePerLink : busy.SweepsOk := by decide

theorem witness_OutstandingTagsMatchCorrections : busy.TagsOk := by decide

/-- An idle part: the premise of the second clause of `StepRunsFrontCommand`. -/
theorem witness_StepRunsFrontCommand : State.reset.pending = [] := rfl

/-- A command that is no POWER_ON_RESET. -/
theorem witness_ResetPinStartsAndHoldsPart : ∀ low, Instr.epochExpiry ≠ .powerOnReset low := by decide

/-! ### The host port -/

/-- The longest body that a request can have, and one byte more. -/
theorem witness_RequestWriteStoresMessage :
    State.reset.rstN = true ∧ State.reset.host.txn = .none ∧ (0x13#8 : Byte) ≠ 0x00#8
      ∧ (List.replicate 260 0x00#8).length ≤ 260 ∧ 3 + (List.replicate 260 (0x00#8 : Byte)).length ≤ State.reset.host.inboundFree := by
  simp only [List.length_replicate]
  decide

/-- A buffer with 3 bytes free: length 261 (clause 1), a body of 1 byte that does not fit (clause 2), a body of none that fits and is
cut at its second byte (clause 3). -/
theorem witness_RequestWriteReportsLostMessage :
    let s : State := { State.reset with host := { HostPort.reset with inboundFree := 3 } }
    (s.rstN = true ∧ s.host.txn = .none ∧ (0x13#8 : Byte) ≠ 0x00#8) ∧ 260 < (0x01#8 : Byte).toNat * 256 + (0x05#8 : Byte).toNat
      ∧ ([0x55#8] : List Byte).length ≤ 260 ∧ s.host.inboundFree < 3 + ([0x55#8] : List Byte).length
      ∧ 3 + ([] : List Byte).length ≤ s.host.inboundFree ∧ 0 < 2 ∧ 2 < 3 + ([] : List Byte).length := by decide

theorem witness_ReplyReadShiftsWholeQueue :
    busy.rstN = true ∧ busy.host.txn = .none ∧ busy.host.OutboundOk ∧ busy.host.overflow = .clear := by decide

/-- A queue whose head is cut one byte short of its end, a NOTICE_OVERFLOW alone, one with later notices counted, and a held overflow. -/
theorem witness_ReplyReadLosesNothing :
    let queued : HostPort := { HostPort.reset with out := [.overflow], overflow := .queued, overflowCount := 5, overflowSince := 1 }
    let held : HostPort := { HostPort.reset with out := List.replicate 48 (.notice (.hostFraming .length 5 3)), overflow := .held }
    (busy.host.out = .notice (.hostFraming .length 0x05#8 3) :: []
        ∧ 6 < (HostMsg.bytes (.notice (.hostFraming .length 0x05#8 3)) busy.host.overflowCount).length)
      ∧ (({ State.reset with host := queued } : State).rstN = true ∧ queued.txn = .none ∧ queued.out = [.overflow]
          ∧ queued.overflow = .queued ∧ queued.overflowSince ≠ 0)
      ∧ ∃ m rest, held.out = m :: rest ∧ held.overflow = .held :=
  ⟨by decide, by decide, _, _, rfl, rfl⟩

theorem witness_PortStatusAndUnknownCommandByte :
    busy.rstN = true ∧ busy.host.txn = .none ∧ (0x3D#8 : Byte) ≠ 0x6E#8 ∧ (0x3D#8 : Byte) ≠ 0x9B#8 ∧ (0x3D#8 : Byte) ≠ 0x3C#8 := by
  decide

/-- The boundary of each decision: 30 and 31 notices, 47 messages with a place held, an overflow counted to the limit, a kind off. -/
theorem witness_NoticeClaimsPlace :
    let full (n : Nat) : HostPort := { HostPort.reset with out := List.replicate n (.notice (.hostFraming .length 5 3)) }
    let replies : HostPort :=
      { HostPort.reset with out := List.replicate 47 (.reply { kind := 1, id := 2, status := .ok, payload := [] }), heldPlace := true }
    ((full 30).out.length + (if (full 30).heldPlace then 1 else 0) < 48 ∧ (full 30).out.countP HostMsg.isNotice < 31)
      ∧ (full 31).out.countP HostMsg.isNotice = 31
      ∧ (replies.overflow = .clear ∧ 48 ≤ replies.out.length + (if replies.heldPlace then 1 else 0))
      ∧ (({ full 32 with overflow := .queued, overflowCount := 65535 } : HostPort).overflow ≠ .clear)
      ∧ namesWide State.reset.params.noticeMask (Notice.hostOverrun 1 2 3).maskBit = true
      ∧ namesWide State.reset.params.noticeMask (Notice.sweepEnd .se0 keyA .aborted 0 0 false).maskBit = false := by decide

/-! ### Taking requests -/

/-- A request that carries its own write, one that waits whole in the buffer, and a full outbound queue. -/
theorem witness_EveryRequestAnsweredOnce :
    requestOf (.status [0x55#8]) = some (0x13#8, [0x55#8]) ∧ State.reset.Takes 0x13#8 [0x55#8]
      ∧ ({ State.reset with host := { HostPort.reset with requests := [{ kind := 0x13#8, body := [0x55#8] }], inboundFree := 1020 } }
          : State).Takes 0x13#8 [0x55#8]
      ∧ 48 ≤ ({ HostPort.reset with out := List.replicate 48 .overflow } : HostPort).out.length := by decide

/-- Bodies that fail each check of each kind of request, at the boundary where the kind has one. -/
def failingBodies : List (Byte × List Byte × Status) :=
  [(0x15, [], .unknownKind), (0x01, [9, 0, 0, 0, 0, 0], .length), (0x08, [], .length), (0x13, [9, 9], .length),
    (0x01, [9, 0, 0, 0, 12, 2, 0], .badKey), (0x07, [9, 4, 0, 64, 0, 0], .badKey), (0x09, [9, 8, 0, 0, 0, 0, 8, 0], .badKey),
    (0x0C, [9, 6, 0, 0, 0, 0, 0, 0, 0], .badKey), (0x12, [9, 4, 2], .badKey)]

theorem test_failing_bodies : ∀ f ∈ failingBodies, firstFailure Params.defaults f.1 f.2.1 = some f.2.2 := by decide

/-- A CREATE with a pin of 2, with scale 0 and with trim 2048; a LOAD with trim -2049 (R3, R179). -/
theorem test_values_out_of_range :
    [([9, 0, 0, 0, 0, 1, 2] : List Byte), [9, 0, 0, 0, 0, 0, 0, 0, 0, 0, 0, 0, 0, 0, 0], [9, 0, 0, 0, 0, 0, 0, 0, 0, 0, 0, 0, 1, 8, 0]].all
        (fun body => firstFailure Params.defaults 0x01#8 body == some .badValue)
      ∧ firstFailure Params.defaults 0x02#8 [9, 0, 0, 0, 0, 0, 0, 0, 0, 0, 1, 0xF7, 0xFF] = some .badValue
      ∧ firstFailure Params.defaults 0x02#8 [9, 0, 0, 0, 0, 0, 0, 0, 0, 0, 1, 0xF8, 0x00] = none := by decide

theorem witness_RequestChecksAnswerFirstFailure :
    (∀ f ∈ failingBodies, busy.Takes f.1 f.2.1 ∧ firstFailure busy.params f.1 f.2.1 = some f.2.2)
      ∧ requestOf (.aliasSet [9, 8, 0, 0, 0, 0, 8, 0]) = some (0x09#8, [9, 8, 0, 0, 0, 0, 8, 0])
      ∧ (busy.Takes 0x05#8 [1, 3, 7, 5, 11, 1, 0] ∧ firstFailure busy.params 0x05#8 [1, 3, 7, 5, 11, 1, 0] = none
          ∧ ∀ e ∈ busy.table, e.2.key.raw ≠ RawKey.mk 3 7 5 11) := by decide

/-! ### Record requests -/

/-- Values at both ends of their ranges. -/
def lowest : Values := { offsetI := -32768, offsetQ := -32768, scale := 1, trim := -2048 }
def highest : Values := { offsetI := 32767, offsetQ := 32767, scale := 65535, trim := 2047 }

theorem witness_values_in_range : lowest.InRange ∧ highest.InRange := by decide

/-- A table whose first `count` slots are occupied. -/
def filled (count : Nat) : Table :=
  (List.range count).map fun n =>
    (n, sample { link := 0, channel := ⟨n % 8, by omega⟩, tone := ⟨n / 8 % 6, by omega⟩, gain := ⟨n / 48 % 12, by omega⟩ })

theorem filled_order (count : Nat) : (filled count).Pairwise fun a b => a.1 < b.1 := by
  rw [filled, List.pairwise_map]
  exact List.pairwise_lt_range

theorem filled_mem {count : Nat} {e : Nat × Record} (h : e ∈ filled count) :
    e.1 < count ∧ e.2.key.link = 0 ∧ e.2.lastUse = 5 := by
  obtain ⟨n, hn, rfl⟩ := List.mem_map.1 h
  exact ⟨List.mem_range.1 hn, rfl, rfl⟩

theorem filled_occupied {count : Nat} : ∀ n < count, Table.get (filled count) n ≠ none := by
  intro n hn h
  have mem : (n, _) ∈ filled count := List.mem_map.2 ⟨n, List.mem_range.2 hn, rfl⟩
  rw [Table.get_of_mem (filled_order count) mem] at h
  cases h

theorem filled_keys {count : Nat} (low : count ≤ 512) : (filled count).Pairwise fun a b => a.2.key ≠ b.2.key := by
  rw [filled, List.pairwise_map]
  refine List.pairwise_lt_range.imp_of_mem ?_
  intro a b ha hb hab heq
  rw [List.mem_range] at ha hb
  simp only [sample, Key.mk.injEq, Fin.mk.injEq] at heq
  omega

/-- The full table with link 1 UP and its AUTOCREATE_MASK bit set. -/
def crowded (count : Nat) : State :=
  { calm with
    table := filled count
    store := { Store.defaults with params := { Params.defaults with autocreateMask := 2 } } }

theorem crowded_tableOk {count : Nat} (low : count ≤ 512) : (crowded count).TableOk :=
  ⟨filled_order count, fun _ he => Nat.lt_of_lt_of_le (filled_mem he).1 low, filled_keys low⟩

theorem crowded_lacks (count : Nat) : (crowded count).Lacks keyA := by
  intro e he h
  exact absurd ((filled_mem he).2.1.symm.trans (congrArg Key.link h)) (by decide)

theorem witness_CreateStoresRecord :
    (busy.Takes 0x01#8 (createBody 9 { keyC with channel := 7 } .auto true (some highest)) ∧ (∀ v ∈ some highest, v.InRange)
        ∧ busy.Lacks { keyC with channel := 7 } ∧ busy.LowestFree 0)
      ∧ (busy.Takes 0x01#8 (createBody 9 keyC .fixed false none) ∧ ¬busy.Lacks keyC)
      ∧ ∀ count, (crowded count).Takes 0x01#8 (createBody 9 keyA .fixed false none)
          ∧ (crowded count).Lacks keyA ∧ ∀ n < count, Table.get (crowded count).table n ≠ none :=
  ⟨by decide, by decide, fun count => ⟨⟨rfl, show busy.host.out.length < 48 by decide, .inr ⟨rfl, rfl, by decide⟩⟩, crowded_lacks count, filled_occupied⟩⟩

theorem witness_CreateOffersFirstJoin :
    busy.Takes 0x01#8 (createBody 9 { keyC with channel := 7 } .auto true none) ∧ busy.Lacks { keyC with channel := 7 }
      ∧ busy.LowestFree 0 := by decide

/-- Queues of 63 and 64 entries, with and without a back entry, on a link that is not OFF; and a link that is OFF. -/
theorem witness_OfferDecidedByQueue :
    let entry : QEntry := { slot := 9, key := keyB, cause := .scheduled }
    let holding (prio back : Nat) : State :=
      { busy with queue := { prio := List.replicate prio { entry with cause := .first }, back := List.replicate back entry } }
    (busy.link 3).state = .off ∧ (busy.link keyA.link).state ≠ .off ∧ (holding 0 63).queue.length < 64
      ∧ (64 ≤ (holding 63 1).queue.length ∧ (holding 63 1).queue.back.getLast? = some entry)
      ∧ (64 ≤ (holding 64 0).queue.length ∧ (holding 64 0).queue.back = []) := by decide

theorem witness_LoadReplacesValues :
    busy.Takes 0x02#8 (loadBody 9 keyB lowest) ∧ lowest.InRange
      ∧ (∃ r, busy.Holds keyB 9 r ∧ r.key = keyB ∧ ∀ e, r.standing ≠ .sweeping e) := by
  refine ⟨by decide, by decide, { sample keyB with state := .pending, held := none, generation := 0, standing := .queued .first }, ?_⟩
  refine ⟨by decide, rfl, ?_⟩
  intro e h
  cases h

theorem witness_ReadAndStatusReport :
    busy.Takes 0x03#8 (keyBody 9 keyC) ∧ busy.Holds keyC 3 { sample keyC with policy := .fixed } ∧ busy.Takes 0x13#8 [0x55#8] := by
  decide

theorem witness_RetireRemovesRecord :
    busy.Takes 0x04#8 (keyBody 9 keyC) ∧ busy.Holds keyC 3 { sample keyC with policy := .fixed }
      ∧ ∀ e, ({ sample keyC with policy := .fixed } : Record).standing ≠ .sweeping e :=
  ⟨by decide, by decide, fun _ h => by cases h⟩

theorem witness_SetPolicyFixedTakesRecordOver :
    busy.Takes 0x05#8 [9, 1, 4, 2, 11, 1, 0] ∧ keyD.raw = RawKey.mk 1 4 2 11
      ∧ busy.Holds keyD 12 { sample keyD with state := .suspect, failCount := 1, standing := .retry 1 }
      ∧ ∀ e, ({ sample keyD with state := .suspect, failCount := 1, standing := .retry 1 } : Record).standing ≠ .sweeping e :=
  ⟨by decide, by decide, by decide, fun _ h => by cases h⟩

theorem witness_SetPolicyAutoHandsRecordOver :
    (busy.Takes 0x05#8 [9, 1, 4, 2, 11, 0, 0]
        ∧ busy.Holds keyD 12 { sample keyD with state := .suspect, failCount := 1, standing := .retry 1 })
      ∧ (busy.Takes 0x05#8 [9, 0, 0, 0, 0, 0, 0] ∧ busy.Holds keyC 3 { sample keyC with policy := .fixed }) := by decide

theorem witness_HostStopsSweepFirst :
    let r : Record :=
      { sample keyA with
        state := .due, standing := .sweeping .se0, profile := some { level := 0, points := [{ magnitude := 1, phase := 2 }] } }
    (busy.Takes 0x02#8 (loadBody 9 keyA highest) ∧ busy.Takes 0x05#8 [9, 1, 2, 1, 3, 1, 0] ∧ busy.Takes 0x04#8 (keyBody 9 keyA))
      ∧ highest.InRange ∧ busy.Holds keyA 7 r ∧ r.policy = .auto ∧ r.standing = .sweeping .se0 ∧ busy.sweep .se0 = some sampleSweep := by
  decide

/-- One standing for each row of R15. -/
theorem witness_MarkingFollowsStanding :
    ∀ st ∈ [Standing.idle, .waiting .scheduled, .waiting .first, .queued .retry, .queued .first, .retry 2, .sweeping .se1],
      ({ sample keyA with standing := st } : Record).standing = st := by decide

theorem witness_RefreshDecidedByRecord :
    (busy.Takes 0x06#8 (keyBody 9 keyC) ∧ busy.Holds keyC 3 { sample keyC with policy := .fixed })
      ∧ (busy.Takes 0x06#8 (keyBody 9 keyA) ∧ ∃ r, busy.Holds keyA 7 r ∧ r.policy = .auto ∧ r.standing = .sweeping .se0)
      ∧ (calm.Takes 0x06#8 (keyBody 9 keyC) ∧ calm.Holds keyC 3 (sample keyC) ∧ (sample keyC).state ≠ .faulted
          ∧ ∀ e, (sample keyC).standing ≠ .sweeping e)
      ∧ (({ calm with table := [(3, { sample keyC with state := .faulted })] } : State).Takes 0x06#8 (keyBody 9 keyC)
          ∧ ({ calm with table := [(3, { sample keyC with state := .faulted })] } : State).Holds keyC 3
              { sample keyC with state := .faulted })
      ∧ (calm.Takes 0x06#8 (keyBody 9 keyA) ∧ calm.Lacks keyA) := by
  refine ⟨by decide, ⟨by decide, _, ⟨by decide, List.mem_cons_of_mem _ List.mem_cons_self, rfl⟩, rfl, rfl⟩,
    ⟨by decide, by decide, by decide, fun _ h => by cases h⟩, by decide, by decide⟩

theorem witness_RefreshScopeCountsItsMarks :
    (0x3F#8 : Byte).toNat < 64 ∧ 4095 < 4096 ∧ busy.TableOk
      ∧ busy.Takes 0x07#8 ([9, byte (1 : LinkId).val, 0xFF#8, 0x3F#8] ++ bytes2 4095)
      ∧ (busy.Takes 0x07#8 ([9, 4, 0, 0] ++ bytes2 0) ∧ 3 < (0x04#8 : Byte).toNat)
      ∧ (busy.Takes 0x07#8 ([9, 3, 0, 64] ++ bytes2 0) ∧ 64 ≤ (0x40#8 : Byte).toNat)
      ∧ (busy.Takes 0x07#8 ([9, 3, 0, 0] ++ bytes2 4096) ∧ 4096 ≤ 4096) := by decide

theorem witness_ScanListsMatchingRecords :
    (512 ≤ 65535 ∧ busy.Takes 0x08#8 ([9] ++ bytes2 512 ++ [0x3F#8, 0x0F#8]) ∧ (0x3F#8 : Byte).toNat < 64 ∧ (0x0F#8 : Byte).toNat < 16)
      ∧ (513 ≤ 65535 ∧ busy.Takes 0x08#8 ([9] ++ bytes2 513 ++ [0x3F#8, 0x0F#8]) ∧ 512 < 513)
      ∧ (busy.Takes 0x08#8 ([9] ++ bytes2 0 ++ [0x40#8, 0x0F#8]) ∧ 64 ≤ (0x40#8 : Byte).toNat)
      ∧ (busy.Takes 0x08#8 ([9] ++ bytes2 0 ++ [0x3F#8, 0x10#8]) ∧ 16 ≤ (0x10#8 : Byte).toNat) := by decide

/-! ### Alias table and parameter store -/

theorem witness_AliasSetWritesOneEntry :
    let e : AliasEntry :=
      { sourceLink := 2, sourceChannel := 4, tone := none, targetLink := 2, targetChannel := 5, mode := .fallback }
    (busy.Takes 0x09#8 (aliasSetBody 9 7 e) ∧ (e.sourceLink, e.sourceChannel) ≠ (e.targetLink, e.targetChannel))
      ∧ (busy.Takes 0x09#8 [9, 7, 3, 8, 0, 0, 0, 0] ∧ ¬(0x08#8 : Byte).toNat ≤ 7)
      ∧ (busy.Takes 0x09#8 [9, 8, 3, 7, 0, 0, 0, 0] ∧ 7 < (0x08#8 : Byte).toNat)
      ∧ (busy.Takes 0x09#8 [9, 7, 3, 7, 6, 0, 0, 0] ∧ 5 < (0x06#8 : Byte).toNat ∧ (0x06#8 : Byte) ≠ 0xFF#8)
      ∧ (busy.Takes 0x09#8 [9, 7, 3, 7, 0xFF, 0, 0, 2] ∧ 1 < (0x02#8 : Byte).toNat)
      ∧ busy.Takes 0x09#8 [9, 7, 3, 7, 0xFF, 3, 7, 1] := by decide

theorem witness_AliasClearAndReadByIndex :
    (busy.Takes 0x0A#8 [9, 7] ∧ (7 : Fin 8).val = (0x07#8 : Byte).toNat) ∧ (busy.Takes 0x0A#8 [9, 8] ∧ 7 < (0x08#8 : Byte).toNat)
      ∧ busy.Takes 0x0B#8 [9, 7] ∧ busy.Takes 0x0B#8 [9, 8] := by decide

theorem witness_TonePlansAndLevelsSetAndRead :
    let p : TonePlan := { phaseInit := 4095, phaseStep := 1, pointCount := 16, capture := true }
    (p.InRange ∧ busy.Takes 0x0C#8 (tonePlanBody 9 5 p false))
      ∧ (busy.Takes 0x0C#8 ([9, 6] ++ bytes2 0 ++ bytes2 1 ++ [2, 0, 0]) ∧ 5 < (0x06#8 : Byte).toNat)
      ∧ (busy.Takes 0x0C#8 ([9, 5] ++ bytes2 4096 ++ bytes2 1 ++ [2, 0, 0]) ∧ 4095 < 4096)
      ∧ (busy.Takes 0x0C#8 ([9, 5] ++ bytes2 0 ++ bytes2 0 ++ [2, 0, 0]) ∧ busy.Takes 0x0C#8 ([9, 5] ++ bytes2 0 ++ bytes2 4096 ++ [2, 0, 0]))
      ∧ (busy.Takes 0x0C#8 ([9, 5] ++ bytes2 0 ++ bytes2 1 ++ [1, 0, 0]) ∧ (0x01#8 : Byte).toNat < 2 ∧ 16 < (0x11#8 : Byte).toNat)
      ∧ (busy.Takes 0x0C#8 ([9, 5] ++ bytes2 0 ++ bytes2 1 ++ [2, 2, 0]) ∧ busy.Takes 0x0C#8 ([9, 5] ++ bytes2 0 ++ bytes2 1 ++ [2, 0, 2]))
      ∧ (busy.Takes 0x0D#8 [9, 5] ∧ (5 : Fin 6).val = (0x05#8 : Byte).toNat) ∧ (busy.Takes 0x0D#8 [9, 6] ∧ 5 < (0x06#8 : Byte).toNat)
      ∧ (busy.Takes 0x0E#8 ([9, 3] ++ bytes2 65535) ∧ (3 : Fin 4).val = (0x03#8 : Byte).toNat)
      ∧ (busy.Takes 0x0E#8 ([9, 4] ++ bytes2 1) ∧ 3 < (0x04#8 : Byte).toNat) ∧ busy.Takes 0x0E#8 ([9, 3] ++ bytes2 0)
      ∧ busy.Takes 0x0F#8 [9, 3] ∧ busy.Takes 0x0F#8 [9, 4] :=
  ⟨by decide, by decide, by decide, by decide, by decide, by decide, by decide, by decide, by decide, by decide, by decide,
    by decide, by decide⟩

/-- BASE_INTERVAL at INTERVAL_CAP and one above it; ids 0 and 18. -/
theorem witness_ConfigSetKeepsBounds :
    busy.IntervalsOk ∧ (busy.params.range 2).1 ≤ 1800 ∧ 1800 ≤ (busy.params.range 2).2 ∧ (busy.params.range 2).2 < 1801
      ∧ busy.Takes 0x10#8 ([9, byte 2] ++ bytes2 1800) ∧ busy.Takes 0x10#8 ([9, byte 2] ++ bytes2 1801)
      ∧ busy.Takes 0x10#8 ([9, byte 18] ++ bytes2 0) ∧ busy.Takes 0x11#8 [9, byte 17] ∧ busy.params.list[17 - 1]? = some 107
      ∧ busy.Takes 0x11#8 [9, byte 0] := by decide

theorem witness_AlertsMarkServedRecords :
    busy.TableOk ∧ [7, 12].Nodup ∧ Table.get busy.table 3 = some { sample keyC with policy := .fixed }
      ∧ (busy.rstN = true ∧ (busy.link 1).state = .up)
      ∧ ({ phaseInit := 0, phaseStep := 4095, pointCount := 2, capture := false } : TonePlan).InRange
      ∧ busy.Takes 0x0C#8 (tonePlanBody 9 1 { phaseInit := 0, phaseStep := 4095, pointCount := 2, capture := false } true) := by decide

/-! ### Link control and resets -/

theorem witness_DisableTakesLinkOff :
    (busy.Takes 0x12#8 [9, byte (3 : LinkId).val, 0x00#8] ∧ (busy.link 3).state = .off)
      ∧ (busy.Takes 0x12#8 [9, byte (1 : LinkId).val, 0x00#8] ∧ (busy.link 1).state ≠ .off ∧ busy.RefreshOk ∧ busy.SweepsOk) :=
  ⟨by decide, by decide, by decide, by decide, by decide⟩

theorem witness_EnableTakesLinkDown :
    (busy.Takes 0x12#8 [9, byte (3 : LinkId).val, 0x01#8] ∧ (busy.link 3).state = .off)
      ∧ (busy.Takes 0x12#8 [9, byte (1 : LinkId).val, 0x01#8] ∧ (busy.link 1).state ≠ .off) := by decide

theorem witness_SoftResetTableClearsRecords : busy.Takes 0x14#8 [9, 0x00#8] := by decide

theorem witness_SoftResetFullRestartsPart : busy.Takes 0x14#8 [9, 0x01#8] ∧ (busy.link 1).state = .up := by decide

/-! ### Time -/

theorem witness_EpochExpiryAgesThenOffers : busy.rstN = true := rfl

/-- A request timer and a wait timer that run, and a HELLO timer of a DOWN link. -/
theorem witness_TimersOfOneOwnerExpire :
    (({ busy with se0 := some { sampleSweep with timer := .request 5 } } : State).sweep .se0
        = some { sampleSweep with timer := .request 5 })
      ∧ (({ busy with se1 := some { sampleSweep with mode := .wait, timer := .wait 1 } } : State).sweep .se1
          = some { sampleSweep with mode := .wait, timer := .wait 1 })
      ∧ ((busy.link 0).state = .down ∧ (busy.link 0).hello = some 10) := by decide

/-! ### Sweeps -/

/-- An entry of a DOWN link ahead of one of an UP link, the other engine sweeping elsewhere; and an engine with nothing to take. -/
theorem witness_DispatchServesFirstEligible :
    let held : QEntry := { slot := 5, key := { keyC with link := 2 }, cause := .first }
    let taken : QEntry := { slot := 3, key := keyC, cause := .scheduled }
    let s : State := { calm with queue := { prio := [held], back := [taken] }, se1 := some sampleSweep }
    (s.sweep .se0 = none ∧ s.queue.prio ++ s.queue.back = [held] ++ taken :: [] ∧ (s.link taken.key.link).state = .up
        ∧ (∀ w, s.sweep (otherEngine .se0) = some w → w.key.link ≠ taken.key.link)
        ∧ ∀ x ∈ [held], (s.link x.key.link).state ≠ .up)
      ∧ busy.sweep .se0 ≠ none ∧ (∀ x ∈ calm.queue.prio ++ calm.queue.back, (calm.link x.key.link).state ≠ .up) ∧ calm.rstN = true := by
  refine ⟨⟨by decide, by decide, by decide, ?_, by decide⟩, by decide, by decide, by decide⟩
  intro w h
  cases h
  decide

/-- A first failure, and one at FAIL_LIMIT; RETRY_DELAY at its default and 0. -/
theorem witness_CountedFailureAtRecord :
    busy.sweep .se0 = some sampleSweep ∧ (∃ r, Table.get busy.table sampleSweep.slot = some r ∧ r.failCount + 1 < busy.params.failLimit)
      ∧ busy.params.retryDelay ≠ 0
      ∧ (let s : State := { busy with store := { Store.defaults with params := { Params.defaults with failLimit := 1, retryDelay := 0 } } }
         s.sweep .se0 = some sampleSweep ∧ s.params.retryDelay = 0
          ∧ ∃ r, Table.get s.table sampleSweep.slot = some r ∧ s.params.failLimit ≤ r.failCount + 1) :=
  ⟨by decide, ⟨_, rfl, by decide⟩, by decide, by decide, by decide, _, rfl, by decide⟩

/-- A number that is not awaited, and the awaited one at the ZERO step, at a point, and at level 3. -/
theorem witness_CalResultDrivesSweep :
    (busy.rstN = true ∧ (busy.link 1).state = .up ∧ (busy.link 1).awaited ≠ some 0x27#8) ∧ busy.Awaits 1 0x28#8 .se0 sampleSweep
      ∧ sampleSweep.step = .point 1 ∧ 1 + 1 < sampleSweep.plan.pointCount ∧ sampleSweep.level.val + 1 = (1 : Fin 4).val
      ∧ (let w : Sweep := { sampleSweep with step := .zero }
         ({ busy with se0 := some w } : State).Awaits 1 0x28#8 .se0 w)
      ∧ (let w : Sweep := { sampleSweep with step := .point 7, level := 3, restarts := 3 }
         ({ busy with se0 := some w } : State).Awaits 1 0x28#8 .se0 w ∧ w.plan.pointCount ≤ 7 + 1 ∧ w.level.val = 3)
      ∧ (0x0FFF#16 : Word).toNat < 4096 ∧ 4096 ≤ (0x1000#16 : Word).toNat :=
  ⟨by decide, by decide, by decide, by decide, by decide, by decide, by decide, by decide⟩

/-- Two points whose spread is the limit, and one whose spread is above it. -/
theorem witness_ComputationGivesValues :
    let w : Sweep := { sampleSweep with points := [⟨36200, 4086⟩, ⟨36200, 462⟩] }
    w.zero = some (-212, 37) ∧ w.runAmplitude = some 40000 ∧ w.points ≠ [] ∧ (∀ p ∈ w.points, p.phase < 4096)
      ∧ ([10, 50] : List Int).length = w.points.length
      ∧ ((4096 : Int) ∣ ((0 + 0 * 512 : Nat) : Int) - (4086 : Nat) - 10 ∧ (4096 : Int) ∣ ((0 + 1 * 512 : Nat) : Int) - (462 : Nat) - 50)
      ∧ (∀ a ∈ ([10, 50] : List Int), ∀ b ∈ ([10, 50] : List Int), a - b ≤ ((40 : Nat) : Int))
      ∧ (∃ a ∈ ([10, 50] : List Int), ∃ b ∈ ([10, 50] : List Int), ((39 : Nat) : Int) < a - b)
      ∧ (w.points.map Point.magnitude).sum / w.points.length ≠ 0
      ∧ ((w.points.map fun p => { p with magnitude := 0 }).map Point.magnitude).sum / w.points.length = 0 := by decide +kernel

theorem witness_CommitWritesRecord :
    busy.sweep .se0 = some sampleSweep ∧ ∃ r, Table.get busy.table sampleSweep.slot = some r := ⟨by decide, _, rfl⟩

theorem witness_AgreementSetsStreakAndInterval :
    15 ≤ 15 ∧ (∀ h : Holding, some { values := highest, origin := Origin.sweep } = some h → -2048 ≤ h.values.trim ∧ h.values.trim ≤ 2047)
      ∧ -2048 ≤ lowest.trim ∧ lowest.trim ≤ 2047 := by
  refine ⟨by decide, ?_, by decide, by decide⟩
  intro h e
  cases e
  decide

/-- A number not awaited; the awaited one below and at DECLINE_LIMIT; an engine whose partner check is to be made. -/
theorem witness_DeclinedOrUnfitSweepWaitsOrFails :
    (busy.rstN = true ∧ (busy.link 1).state = .up ∧ (busy.link 1).awaited ≠ some 0x27#8)
      ∧ (busy.Awaits 1 0x28#8 .se0 sampleSweep ∧ sampleSweep.declines < busy.params.declineLimit)
      ∧ (let w : Sweep := { sampleSweep with declines := 8 }
         ({ busy with se0 := some w } : State).Awaits 1 0x28#8 .se0 w ∧ busy.params.declineLimit ≤ w.declines)
      ∧ (let w : Sweep := { sampleSweep with awaited := none, step := .zero }
         ({ busy with se0 := some w } : State).sweep .se0 = some w ∧ w.mode = .measure ∧ w.awaited = none
          ∧ (busy.link w.key.link).partner = some { level := 0x01#8, channels := 0x08#8, toneMask := 0x3F#8 }) := by decide

/-! ### Probe links -/

/-- A HELLO, a CORRECTION, an awaited CAL_REQUEST and one that nothing awaits, each at the head of a queue. -/
theorem witness_SentFrameLeavesQueue :
    let request (n : Byte) : OutMsg := { body := .calRequest { sampleRequest with sequence := n }, orphan := false }
    let s (n : Byte) : State := busy.withLink 1 { upLink with out := [request n] }
    ((busy.link 0).out = [{ body := .hello 0, orphan := false }] ∧ OutMsg.helloOf { body := .hello 0, orphan := false } = true)
      ∧ (∃ rest, (busy.link 1).out = { body := .correction openAnswer, orphan := false } :: rest)
      ∧ ((s 0x28#8).rstN = true ∧ ((s 0x28#8).link 1).out = [request 0x28#8] ∧ (s 0x28#8).SweepsOk
          ∧ (s 0x28#8).sweep .se0 = some sampleSweep ∧ sampleSweep.key.link = 1 ∧ sampleSweep.awaited = some 0x28#8)
      ∧ ((s 0x27#8).SweepsOk ∧ ((s 0x27#8).link 1).out = [request 0x27#8] ∧ ((s 0x27#8).link 1).awaited ≠ some 0x27#8) :=
  ⟨by decide, ⟨_, rfl⟩, by decide, by decide⟩

/-- The longest body a frame can have and one byte more, on a link that is DOWN; and a link that is OFF. -/
theorem witness_DamagedFramesOnlyResetReceiver :
    (busy.rstN = true ∧ (busy.link 3).state = .off) ∧ ((busy.link 0).state ≠ .off ∧ (busy.link 0).rx = [])
      ∧ ((0x28#8 : Byte).toNat ≤ 40 ∧ (List.replicate 40 (0x00#8 : Byte)).length = (0x28#8 : Byte).toNat
          ∧ ∃ check : Byte, check ≠ crc8 (0x30#8 :: 0x28#8 :: List.replicate 40 0x00#8))
      ∧ 40 < (0x29#8 : Byte).toNat := by
  refine ⟨by decide, by decide, ⟨by decide, by decide, ?_⟩, by decide⟩
  by_cases h : (0x00#8 : Byte) = crc8 (0x30#8 :: 0x28#8 :: List.replicate 40 0x00#8)
  · exact ⟨0x01#8, fun h' => absurd (h.trans h'.symm) (by decide)⟩
  · exact ⟨0x00#8, h⟩

/-- Bodies at both ends of the valid ranges, some that are refused, and a link that is UP. -/
theorem witness_HelloAckTrainsOrIsRefused :
    let valid (body : List Byte) : Prop :=
      body.length = 3 ∧ body.getD 0 0 = 0x01#8 ∧ 1 ≤ (body.getD 1 0).toNat ∧ (body.getD 1 0).toNat ≤ 8
        ∧ 1 ≤ (body.getD 2 0).toNat ∧ (body.getD 2 0).toNat < 64
    busy.rstN = true ∧ (busy.link 0).state = .down ∧ valid [0x01#8, 0x01#8, 0x3F#8] ∧ valid [0x01#8, 0x08#8, 0x01#8]
      ∧ ¬valid [0x01#8, 0x09#8, 0x01#8] ∧ ¬valid [] ∧ ¬valid [0x01#8, 0x08#8] ∧ ¬valid [0x01#8, 0x08#8, 0x01#8, 0x00#8]
      ∧ (busy.link 0).refusalReported = false ∧ (busy.link 1).state = .up ∧ (busy.link 3).state = .off := by decide

/-- A body of one byte gives a protocol level and no more: the other two fields are sent as 00h (R146, the opening of chapter 10). -/
theorem test_hello_ack_short_body :
    (State.reset.refusePartner 2 [0x07#8]).host.out =
      [.notice (.linkState 2 .down .badPartner 0x07#8 0x00#8 0x00#8 0 0)] := by decide

/-- A part with link 1 UP and records and aliases for its lookups. -/
def serving : State :=
  { calm with
    table := [(3, sample keyC), (7, { sample keyA with state := .faulted }), (12, { sample keyD with state := .due })]
    aliases :=
      #v[some { sourceLink := 1, sourceChannel := 4, tone := none, targetLink := 0, targetChannel := 0, mode := .always },
        some { sourceLink := 1, sourceChannel := 2, tone := some 1, targetLink := 1, targetChannel := 4, mode := .fallback },
        none, none, none, none, none, none] }

/-- A lookup answered by its own record, by none, under an ALWAYS entry and under a FALLBACK one; fields out of range and a tone that
the partner does not convert. -/
theorem witness_LookupAnsweredFromTable :
    let p : Partner := { level := 0x01#8, channels := 0x08#8, toneMask := 0x3F#8 }
    (serving.rstN = true ∧ serving.TableOk ∧ (serving.link 1).state = .up ∧ (2 : Fin 4) ∉ (serving.link 1).tags
        ∧ (serving.link 1).partner = some p)
      ∧ 8 ≤ (0x08#8 : Byte).toNat ∧ p.toneMask.getLsbD (0x05#8 : Byte).toNat = true
      ∧ ({ p with toneMask := 0x1F#8 } : Partner).toneMask.getLsbD (0x05#8 : Byte).toNat = false
      ∧ (serving.Holds keyC 3 (sample keyC) ∧ serving.Lacks keyB ∧ serving.params.autocreateMask.testBit 1 = false)
      ∧ serving.Unaliased keyC
      ∧ (∃ a, serving.FirstMatch keyD a ∧ a.mode = .always)
      ∧ (∃ a, serving.FirstMatch keyA a ∧ a.mode = .fallback ∧ serving.NotServing { keyA with link := a.targetLink, channel := a.targetChannel }
          ∧ ({ serving with table := [] } : State).NotServing { keyA with link := a.targetLink, channel := a.targetChannel })
      ∧ serving.Holds keyA 7 { sample keyA with state := .faulted } ∧ ({ serving with table := [] } : State).Lacks keyA :=
  ⟨by decide, by decide, by decide, by decide, by decide, by decide, ⟨_, ⟨0, rfl, by decide, by decide⟩, rfl⟩,
    ⟨_, ⟨1, rfl, by decide, by decide⟩, rfl, .inl (by decide), .inl (by decide)⟩, by decide, by decide⟩

/-- The third case of R126 with an absent own key, where the lookup creates. -/
theorem witness_LookupCreatesAndEvicts_third_case :
    let s : State := { serving with
      table := [], store := { Store.defaults with params := { Params.defaults with autocreateMask := 2 } } }
    (s.rstN = true ∧ s.TableOk ∧ s.Lacks keyA ∧ s.params.autocreateMask.testBit 1 = true ∧ s.LowestFree 0)
      ∧ ∃ a, s.FirstMatch keyA a ∧ a.mode = .fallback ∧ s.NotServing { keyA with link := a.targetLink, channel := a.targetChannel } :=
  ⟨by decide, _, ⟨1, rfl, by decide, by decide⟩, rfl, .inl (by decide)⟩

/-- A table with a free slot, and the full one, whose oldest candidate is slot 0. -/
theorem witness_LookupCreatesAndEvicts :
    let p : Partner := { level := 0x01#8, channels := 0x08#8, toneMask := 0x3F#8 }
    (∀ count ≤ 512,
        ((crowded count).rstN = true ∧ (crowded count).TableOk ∧ ((crowded count).link 1).state = .up
            ∧ (2 : Fin 4) ∉ ((crowded count).link 1).tags ∧ ((crowded count).link 1).partner = some p)
          ∧ (keyA.channel.val < p.channels.toNat ∧ p.toneMask.getLsbD keyA.tone.val = true
            ∧ (∀ i : Fin 8, (crowded count).aliases[i] = none) ∧ (crowded count).Lacks keyA
            ∧ (crowded count).params.autocreateMask.testBit 1 = true)
          ∧ ∀ n < count, Table.get (crowded count).table n ≠ none)
      ∧ (crowded 0).LowestFree 0
      ∧ ∀ count, 0 < count →
        ∃ r, (0, r) ∈ (crowded count).table ∧ r.policy = .auto ∧ r.pin = false ∧ (∀ i, r.standing ≠ .sweeping i)
          ∧ ∀ e ∈ (crowded count).table, r.lastUse = e.2.lastUse ∧ 0 ≤ e.1 := by
  have aliases : ∀ i : Fin 8, calm.aliases[i] = none := by decide
  have mask : Nat.testBit 2 1 = true := by decide
  refine ⟨fun count low => ⟨⟨rfl, crowded_tableOk low, rfl,
      show (2 : Fin 4) ∉ (calm.link 1).tags by decide, rfl⟩,
    ⟨by decide, by decide, aliases, crowded_lacks count, mask⟩,
    filled_occupied⟩, ⟨by decide, rfl, fun m hm => absurd hm (Nat.not_lt_zero m)⟩, fun count some' => ⟨_,
    List.mem_map.2 ⟨0, List.mem_range.2 some', rfl⟩, rfl, rfl, fun _ h => (by cases h), fun e he =>
      ⟨(filled_mem he).2.2.symm, Nat.zero_le _⟩⟩⟩

theorem witness_LinkLeavesUpForDown :
    (calm.sweepsOn .se0 1 = false ∧ calm.sweepsOn .se1 1 = false)
      ∧ (busy.SweepsOk ∧ busy.sweep .se0 = some sampleSweep ∧ sampleSweep.key.link = 1)
      ∧ (busy.rstN = true ∧ (busy.link 1).state = .up ∧ (busy.link 0).state = .down ∧ (busy.link 3).state = .off) := by decide

theorem witness_ProtocolFaultsCounted :
    busy.rstN = true ∧ (Instr.unknownFrameKind 1 0x12#8 [1, 2, 3]).wellFormed = true ∧ (busy.link 1).state = .up
      ∧ (busy.link 0).state = .down ∧ (busy.link 3).state = .off ∧ 4 ≤ (0x04#8 : Byte).toNat
      ∧ ∃ t ∈ (busy.link 1).tags, t.val = (0x02#8 : Byte).toNat := by decide

theorem witness_CorrectionEncodesAnswer : (sample keyA).Sound ∧ ({ sample keyA with state := .pending, held := none } : Record).Sound := by
  decide

end Sys2Proof.Tests
end

section
/-! The rules of the Record Table and of the Refresh Queue that the proofs below share: what a slot holds after an offer or a
marking, and that those operations change nothing of a record but its standing. -/

namespace Sys2Proof.Machine

/-! ## Records of a table -/

theorem Table.mem_modify {t : Table} {slot : Nat} {r : Record} (f : Record → Record) (h : (slot, r) ∈ t) :
    (slot, f r) ∈ Table.modify t slot f :=
  List.mem_map.2 ⟨(slot, r), h, by simp⟩

theorem Table.mem_put_self (t : Table) (slot : Nat) (r : Record) : (slot, r) ∈ Table.put t slot r :=
  Table.mem_of_get (by simp [Table.get_put])

theorem Table.not_mem_of_get_none {t : Table} {slot : Nat} {r : Record} (h : Table.get t slot = none) : (slot, r) ∉ t := by
  intro hr
  rw [Table.get, Option.map_eq_none_iff, List.find?_eq_none] at h
  simpa using h _ hr

theorem Table.modify_of_get_none {t : Table} {slot : Nat} (h : Table.get t slot = none) (f : Record → Record) :
    Table.modify t slot f = t := by
  conv_rhs => rw [← List.map_id t]
  refine List.map_congr_left fun e he => if_neg fun hs => ?_
  subst hs
  exact Table.not_mem_of_get_none h he

/-- Two changes of one record are one. -/
theorem Table.modify_modify (t : Table) (slot : Nat) (f g : Record → Record) :
    Table.modify (Table.modify t slot f) slot g = Table.modify t slot (g ∘ f) := by
  rw [Table.modify, Table.modify, List.map_map]
  refine List.map_congr_left fun e _ => ?_
  by_cases h : e.1 = slot <;> simp [h]

theorem State.mem_modRecord {s : State} {slot : Nat} {r : Record} (f : Record → Record) (h : (slot, r) ∈ s.table) :
    (slot, f r) ∈ (s.modRecord slot f).table :=
  Table.mem_modify f h

theorem State.mem_setStanding {s : State} {slot : Nat} {r : Record} (st : Standing) (h : (slot, r) ∈ s.table) :
    (slot, { r with standing := st }) ∈ (s.setStanding slot st).table :=
  Table.mem_modify (fun r => { r with standing := st }) h

theorem State.modRecord_modRecord (s : State) (slot : Nat) (f g : Record → Record) :
    (s.modRecord slot f).modRecord slot g = s.modRecord slot (g ∘ f) :=
  congrArg s.withTable (Table.modify_modify s.table slot f g)

@[simp] theorem State.modRecord_table (s : State) (slot : Nat) (f : Record → Record) :
    (s.modRecord slot f).table = Table.modify s.table slot f := rfl

theorem State.get_setStanding (s : State) (slot n : Nat) (st : Standing) :
    Table.get (s.setStanding slot st).table n =
      if n = slot then (Table.get s.table n).map (fun r => { r with standing := st }) else Table.get s.table n := by
  rw [State.setStanding, State.modRecord_table, Table.get_modify]

/-- A record's slot is found where the table is in order. -/
theorem State.TableOk.get {s : State} (ok : s.TableOk) {slot : Nat} {r : Record} (h : (slot, r) ∈ s.table) :
    Table.get s.table slot = some r :=
  Table.get_of_mem ok.1 h

theorem State.TableOk.setStanding {s : State} (ok : s.TableOk) (slot : Nat) (st : Standing) : (s.setStanding slot st).TableOk :=
  State.modRecord_tableOk slot (fun r => { r with standing := st }) (fun _ => rfl) ok

/-! ## Engines -/

@[simp] theorem State.clearEngine_sweep (s : State) (e f : EngineId) (w : Sweep) :
    (s.clearEngine e w).sweep f = if f = e then none else s.sweep f := by
  simp [State.clearEngine, State.withSweep_sweep_eq]

@[simp] theorem State.stopEngine_sweep (s : State) (e f : EngineId) (w : Sweep) :
    (s.stopEngine e w).sweep f = if f = e then none else s.sweep f := by
  simp [State.stopEngine]

@[simp] theorem State.haltEngine_sweep (s : State) (e f : EngineId) :
    (s.haltEngine e).sweep f = if f = e then none else s.sweep f := by
  simp only [State.haltEngine]
  split
  · exact s.stopEngine_sweep e f _
  next idle => split <;> simp_all

/-! ## Standings -/

/-- The second table reads as the first but for the standings of its records. -/
def Table.SameButStandings (t u : Table) : Prop :=
  ∀ n, ∃ st, Table.get u n = (Table.get t n).map fun r => { r with standing := st }

theorem Table.SameButStandings.refl (t : Table) : t.SameButStandings t := by
  intro n
  cases h : Table.get t n with
  | none => exact ⟨.idle, rfl⟩
  | some r => exact ⟨r.standing, rfl⟩

theorem Table.SameButStandings.trans {t u v : Table} (h : t.SameButStandings u) (h' : u.SameButStandings v) :
    t.SameButStandings v := by
  intro n
  obtain ⟨st, e⟩ := h n
  obtain ⟨st', e'⟩ := h' n
  exact ⟨st', by rw [e', e, Option.map_map]; rfl⟩

theorem State.setStanding_sameButStandings (s : State) (slot : Nat) (st : Standing) :
    s.table.SameButStandings (s.setStanding slot st).table := by
  intro n
  by_cases h : n = slot
  · exact ⟨st, by rw [State.get_setStanding, if_pos h]⟩
  · rw [State.get_setStanding, if_neg h]
    exact Table.SameButStandings.refl s.table n

theorem State.displace_sameButStandings (s : State) : s.table.SameButStandings s.displace.table := by
  simp only [State.displace]
  split
  · exact State.setStanding_sameButStandings _ _ _
  · exact .refl _

theorem State.placeEntry_sameButStandings (s : State) (e : QEntry) : s.table.SameButStandings (s.placeEntry e).table :=
  State.setStanding_sameButStandings (s.withQueue _) e.slot (.queued e.cause)

theorem State.join_sameButStandings (s : State) (e : QEntry) : s.table.SameButStandings (s.join e).1.table := by
  simp only [State.join]
  (repeat' split)
  · exact s.placeEntry_sameButStandings e
  · exact s.displace_sameButStandings.trans (s.displace.placeEntry_sameButStandings e)
  · exact .refl _

theorem State.offer_sameButStandings (s : State) (slot : Nat) (key : Key) (cause : Cause) :
    s.table.SameButStandings (s.offer slot key cause).1.table := by
  simp only [State.offer]
  split
  · exact .refl _
  · exact s.join_sameButStandings _

theorem State.waitAndOffer_sameButStandings (s : State) (slot : Nat) (key : Key) (cause : Cause) :
    s.table.SameButStandings (s.waitAndOffer slot key cause).1.table :=
  (s.setStanding_sameButStandings slot (.waiting cause)).trans (State.offer_sameButStandings _ slot key cause)

theorem State.promote_sameButStandings (s : State) (slot : Nat) (key : Key) :
    s.table.SameButStandings (s.promote slot key).table :=
  State.setStanding_sameButStandings (s.withQueue _) slot (.queued .requested)

/-! ## The marking by a record's standing (R15) -/

section
variable {s : State} {m : Marker} {slot : Nat} {r : Record}

theorem State.mark_idle (h : r.standing = .idle) :
    s.mark m slot r = ((s.waitAndOffer slot r.key .requested).1, some (s.waitAndOffer slot r.key .requested).2) := by
  simp [State.mark, h]

theorem State.mark_waiting {c : Cause} (h : r.standing = .waiting c) :
    s.mark m slot r =
      ((s.waitAndOffer slot r.key (if c.isPriority then c else .requested)).1,
        some (s.waitAndOffer slot r.key (if c.isPriority then c else .requested)).2) := by
  simp [State.mark, h]

theorem State.mark_queued {c : Cause} (h : r.standing = .queued c) :
    s.mark m slot r = if c.isPriority then (s, some .kept) else (s.promote slot r.key, some .promoted) := by
  simp [State.mark, h]

theorem State.mark_retry_host {n : Nat} (h : r.standing = .retry n) :
    s.mark .host slot r = ((s.waitAndOffer slot r.key .requested).1, some (s.waitAndOffer slot r.key .requested).2) := by
  simp [State.mark, h]

theorem State.mark_retry_alert {n : Nat} (h : r.standing = .retry n) : s.mark .alert slot r = (s, none) := by
  simp [State.mark, h]

theorem State.mark_sweeping {e : EngineId} (h : r.standing = .sweeping e) : s.mark m slot r = (s, none) := by
  simp [State.mark, h]

/-- The change that a drift alert makes of a record it marks, the standing's move apart (R154). -/
def Record.alerted (r : Record) (base : Nat) : Record :=
  { r with interval := base, streak := 0, state := if r.state = .valid then .due else r.state }

theorem State.markAlert_eq (s : State) (slot : Nat) (r : Record) :
    s.markAlert slot r = (s.modRecord slot (·.alerted s.params.baseInterval)).mark .alert slot r := rfl

theorem Record.alerted_live {r : Record} (base : Nat) (live : r.state ≠ .faulted) : (r.alerted base).state ≠ .faulted := by
  by_cases h : r.state = .valid <;> simp [Record.alerted, h, live]

/-- A marking leaves the state, promotes the record's entry, or offers the record a place anew. -/
theorem State.mark_cases (s : State) (m : Marker) (slot : Nat) (r : Record) :
    (s.mark m slot r).1 = s
      ∨ (∃ c, r.standing = .queued c ∧ (s.mark m slot r).1 = s.promote slot r.key)
      ∨ ((r.standing = .idle ∨ (∃ c, r.standing = .waiting c) ∨ ∃ n, r.standing = .retry n)
        ∧ ∃ c, (s.mark m slot r).1 = (s.waitAndOffer slot r.key c).1) := by
  cases h : r.standing with
  | idle => exact .inr (.inr ⟨.inl rfl, .requested, by rw [State.mark_idle h]⟩)
  | waiting c => exact .inr (.inr ⟨.inr (.inl ⟨c, rfl⟩), _, by rw [State.mark_waiting h]⟩)
  | queued c =>
    rw [State.mark_queued h]
    by_cases hc : c.isPriority
    · exact .inl (by rw [if_pos hc])
    · exact .inr (.inl ⟨c, rfl, by rw [if_neg hc]⟩)
  | retry n =>
    cases m with
    | host => exact .inr (.inr ⟨.inr (.inr ⟨n, rfl⟩), .requested, by rw [State.mark_retry_host h]⟩)
    | alert => exact .inl (by rw [State.mark_retry_alert h])
  | sweeping e => exact .inl (by rw [State.mark_sweeping h])

end

/-- A REQUESTED marking changes nothing of a record but its standing. -/
theorem State.mark_sameButStandings (s : State) (m : Marker) (slot : Nat) (r : Record) :
    s.table.SameButStandings (s.mark m slot r).1.table := by
  obtain h | ⟨c, -, h⟩ | ⟨-, c, h⟩ := s.mark_cases m slot r <;> rw [h]
  · exact .refl _
  · exact s.promote_sameButStandings slot r.key
  · exact s.waitAndOffer_sameButStandings slot r.key c

/-- Settles O30: each clause is the marking's equation for that standing. -/
theorem markingFollowsStanding : Obligations.MarkingFollowsStanding := by
  intro s m slot r waitRequested
  refine ⟨State.mark_idle, ?_, ?_, ?_, ?_, fun n h => ⟨State.mark_retry_host h, State.mark_retry_alert h⟩,
    fun e => State.mark_sweeping⟩
  · rintro (h | h) <;> exact State.mark_waiting h
  · rintro c (rfl | rfl) h <;> exact State.mark_waiting h
  · rintro (h | h) <;> exact State.mark_queued h
  · rintro (h | h) <;> exact State.mark_queued h

end Sys2Proof.Machine
end

section
/-! What the commands do to the Record Table, the Refresh Queue and the engines, said once: every command is made of the claims that
`Kept` lists, so a property that each of them keeps is kept by every command. -/

namespace Sys2Proof.Machine

/-! ## What a claim makes of one record -/

/-- The record made AUTO, in a state, its place apart (R23). -/
def Record.handedOver (r : Record) (state : RecState) (pin : Bool) : Record :=
  { r with policy := .auto, pin := pin, standing := .idle, state := state }

/-- A change of a record in place: neither its queue entry nor its sweep is touched. -/
inductive Record.Edit : Record → Record → Prop
  | stamp (r : Record) (n : Nat) : Edit r { r with lastUse := n }
  | pin (r : Record) (b : Bool) : Edit r { r with pin := b }
  | interval (r : Record) (n : Nat) : Edit r { r with interval := n }
  | alert (r : Record) (base : Nat) : Edit r (r.alerted base)
  | restart (r : Record) (staleLimit : Nat) : r.policy = .auto → r.state = .faulted →
    Edit r { r.restarted staleLimit with standing := .waiting .requested }
  | handOver (r : Record) (staleLimit : Nat) (b : Bool) : r.policy = .fixed →
    Edit r (r.handedOver (r.madeAuto staleLimit).1 b)
  | wait (r : Record) (c : Cause) : r.policy = .auto → r.state ≠ .faulted →
    (r.standing = .idle ∨ (∃ d, r.standing = .waiting d) ∨ ∃ n, r.standing = .retry n) → Edit r { r with standing := .waiting c }
  | countdownEnded (r : Record) : Edit r { r with standing := r.standing.countdownEnded }
  | expire (r : Record) (staleLimit : Nat) : Edit r (r.expired staleLimit)

/-- A change of a record that leaves the refresh machinery first (R73, R109). -/
inductive Record.Settle : Record → Record → Prop
  | load (r : Record) (base : Nat) (v : Values) : Settle r (({ r with profile := none } : Record).loaded base v)
  | fix (r : Record) (b : Bool) :
    Settle r { r with policy := .fixed, pin := b, standing := .idle, failCount := 0, state := r.state.madeFixed }

/-- The record after a counted failure below FAIL_LIMIT, with the standing it takes (R18). -/
def Record.failed (r : Record) (st : Standing) : Record :=
  { r with failCount := r.failCount + 1, state := r.state.afterFailure, standing := st }

/-- What the end of its sweep makes of a record (R17 to R20). -/
inductive Record.Finish : Record → Record → Prop
  | commit (r : Record) (p : Params) (v : Values) (profile : Option Profile) :
    Finish r { r.committed p v with profile := profile }
  | fault (r : Record) : Finish r { r with failCount := r.failCount + 1, state := .faulted, standing := .idle }
  | fail (r : Record) (st : Standing) : (st = .waiting .retry ∨ ∃ n, n ≠ 0 ∧ st = .retry n) → Finish r (r.failed st)
  | resume (r : Record) (c : Cause) : Finish r { r with standing := .waiting c }

/-- The record in this slot, if there is one, can seek a sweep (R66). -/
def Table.Seeker (t : Table) (n : Nat) : Prop := ∀ r, Table.get t n = some r → r.policy = .auto ∧ r.state ≠ .faulted

/-- Every slot of a seeker still holds one. -/
def Table.KeepsSeekers (t u : Table) : Prop := ∀ n, t.Seeker n → u.Seeker n

theorem Table.SameButStandings.keepsSeekers {t u : Table} (h : t.SameButStandings u) : t.KeepsSeekers u := by
  intro n seek r' found
  obtain ⟨st, e⟩ := h n
  rw [found] at e
  obtain ⟨r, hr, rfl⟩ := Option.map_eq_some_iff.1 e.symm
  exact seek r hr

theorem State.markAlert_keepsSeekers (s : State) (slot : Nat) (r : Record) :
    s.table.KeepsSeekers (s.markAlert slot r).1.table := by
  refine fun n seek => (State.mark_sameButStandings _ .alert slot r).keepsSeekers n fun r' found => ?_
  rw [State.modRecord_table, Table.get_modify] at found
  split at found
  · obtain ⟨x, hx, rfl⟩ := Option.map_eq_some_iff.1 found
    exact ⟨(seek x hx).1, Record.alerted_live _ (seek x hx).2⟩
  · exact seek r' found

/-- The slots of an ordered table whose records meet a condition hold seekers, where the condition says so. -/
theorem State.TableOk.seekers {s : State} (ok : s.TableOk) {p : Record → Bool}
    (hp : ∀ r, p r = true → r.policy = .auto ∧ r.state ≠ .faulted) : ∀ n ∈ Table.slotsWhere s.table p, s.table.Seeker n := by
  intro n hn r found
  obtain ⟨⟨m, x⟩, hx, hm⟩ := List.mem_map.1 hn
  obtain ⟨hx, px⟩ := List.mem_filter.1 hx
  cases hm
  rw [ok.get hx] at found
  cases found
  exact hp _ px

/-- The claims of which every command is made keep the property. -/
structure Kept (P : State → Prop) : Prop where
  tableOk {s : State} : P s → s.TableOk
  /-- The property speaks of the table, the queue and the engines alone. -/
  rest {s t : State} : t.table = s.table ∧ t.queue = s.queue ∧ t.se0 = s.se0 ∧ t.se1 = s.se1 → P s → P t
  clear {s : State} : s.table = [] → s.queue = { prio := [], back := [] } → s.se0 = none → s.se1 = none → P s
  progress {s : State} {e : EngineId} {w v : Sweep} : s.sweep e = some w → v.slot = w.slot → v.key = w.key → P s →
    P (s.withSweep e (some v))
  edit {s : State} {slot : Nat} {r : Record} {f : Record → Record} : (slot, r) ∈ s.table → r.Edit (f r) → P s →
    P (s.modRecord slot f)
  editAll {s : State} {f : Record → Record} : (∀ r : Record, r.Edit (f r)) → P s →
    P (s.withTable (s.table.map fun e => (e.1, f e.2)))
  settle {s : State} {slot : Nat} {r : Record} {f : Record → Record} (o : SweepOutcome) : (slot, r) ∈ s.table → r.Settle (f r) →
    P s → P ((s.withdraw slot r o).modRecord slot f)
  retire {s : State} {slot : Nat} {r : Record} (o : SweepOutcome) : (slot, r) ∈ s.table → P s →
    P ((s.withdraw slot r o).removeRecord slot r)
  evict {s : State} {slot : Nat} {r : Record} : (slot, r) ∈ s.table → r.evictable = true → P s →
    P ((s.withQueue (s.queue.remove slot)).removeRecord slot r)
  place {s : State} {slot : Nat} {key : Key} (policy : Policy) (pin : Bool) (values : Option Values) (base stamp : Nat) :
    s.LowestFree slot → s.Lacks key → P s → P (s.withTable (Table.put s.table slot (newRecord key policy pin values base stamp)))
  offer {s : State} {slot : Nat} {r : Record} {c : Cause} : (slot, r) ∈ s.table → r.standing = .waiting c → P s →
    P (s.offer slot r.key c).1
  promote {s : State} {slot : Nat} {r : Record} {c : Cause} : (slot, r) ∈ s.table → r.standing = .queued c → P s →
    P (s.promote slot r.key)
  dropLinkEntries {s : State} (l : LinkId) : P s → P (s.dropLinkEntries l)
  dispatch {s : State} (e : EngineId) : P s → P (s.offerDispatch e)
  finish {s : State} {e : EngineId} {w : Sweep} {f : Record → Record} : s.sweep e = some w →
    (∀ r : Record, (w.slot, r) ∈ s.table → r.Finish (f r)) → P s → P ((s.clearEngine e w).modRecord w.slot f)
  linkFailed {s : State} {e : EngineId} {w : Sweep} : s.sweep e = some w → P s →
    P ((s.clearEngine e w).waitAndOffer w.slot w.key w.cause).1

/-! ## Finds -/

/-- An eviction candidate is a record of the table that may be evicted. -/
theorem Table.evictionCandidate_some {t : Table} {c : Nat × Record} (h : Table.evictionCandidate t = some c) :
    c ∈ t ∧ c.2.evictable = true := by
  induction t generalizing c with
  | nil => cases h
  | cons e rest ih =>
    simp only [Table.evictionCandidate] at h
    repeat' split at h
    all_goals simp_all

theorem servable_some {t : Table} {key : Key} {slot : Nat} {r : Record}
    (h : servable (Table.findKey t key) = some (slot, r)) : (slot, r) ∈ t := by
  cases found : Table.findKey t key with
  | none => simp [servable, found] at h
  | some c =>
    have : c = (slot, r) := by
      simp only [servable, found] at h
      split at h <;> simp_all
    exact (Table.findKey_some (this ▸ found)).1

section
variable {s : State} {tag : Fin 4} {key : Key}

/-- The record that a lookup creates (R128). -/
def State.autoRecord (s : State) (key : Key) : Record := newRecord key .auto false none s.params.baseInterval s.epochCount

theorem State.autoCreate_free {n : Nat} (free : Table.lowestFree s.table = some n) :
    s.autoCreate tag key = (s.createRecord n (s.autoRecord key), recordAnswer tag (s.autoRecord key) false true) := by
  simp [State.autoCreate, State.slotForAuto, State.autoRecord, free]

theorem State.autoCreate_evict {n : Nat} {r : Record} (full : Table.lowestFree s.table = none)
    (found : Table.evictionCandidate s.table = some (n, r)) :
    s.autoCreate tag key =
      ((s.evict n r key).createRecord n (s.autoRecord key), recordAnswer tag (s.autoRecord key) false true) := by
  simp [State.autoCreate, State.slotForAuto, State.autoRecord, full, found]

theorem State.autoCreate_miss (full : Table.lowestFree s.table = none) (none' : Table.evictionCandidate s.table = none) :
    s.autoCreate tag key = (s, noRecordAnswer tag .miss false) := by
  simp [State.autoCreate, State.slotForAuto, full, none']

end

/-- In a full table the slot of an evicted record is the lowest free one. -/
theorem State.evict_lowestFree {s : State} (ok : s.TableOk) {c : Nat × Record} (hc : c ∈ s.table)
    (full : ∀ n < 512, Table.get s.table n ≠ none) {key : Key} : (s.evict c.1 c.2 key).LowestFree c.1 := by
  have low := ok.2.1 c hc
  refine ⟨low, ?_, fun m hm => ?_⟩
  · simp [State.evict, State.removeRecord, Table.get_erase]
  · simpa [State.evict, State.removeRecord, Table.get_erase, Nat.ne_of_lt hm] using full m (by omega)

theorem State.evict_lacks {s : State} {slot : Nat} {r : Record} {key : Key} (lacks : s.Lacks key) :
    (s.evict slot r key).Lacks key := by
  intro e he
  simp only [State.evict, State.removeRecord, State.emit_frame, State.withTable_table] at he
  exact lacks e (List.mem_of_mem_filter he)

theorem Record.madeAuto_live {r : Record} {staleLimit : Nat} {c : Cause} (h : (r.madeAuto staleLimit).2 = some c) :
    (r.madeAuto staleLimit).1 ≠ .faulted := by
  revert h
  simp only [Record.madeAuto]
  (repeat' split) <;> simp

/-! ## Requests that only read -/

section
variable (body : List Byte) (s : State)

theorem actRead_state : (actRead body s).state = s := by
  simp only [actRead, State.keyRequest, State.onRecord]
  (repeat' split) <;> rfl

theorem actScan_state : (actScan body s).state = s := by
  simp only [actScan]
  (repeat' split) <;> rfl

theorem actAliasRead_state : (actAliasRead body s).state = s := by
  simp only [actAliasRead, State.indexRequest]
  (repeat' split) <;> rfl

theorem actTonePlanRead_state : (actTonePlanRead body s).state = s := by
  simp only [actTonePlanRead]
  (repeat' split) <;> rfl

theorem actLevelRead_state : (actLevelRead body s).state = s := by
  simp only [actLevelRead]
  (repeat' split) <;> rfl

theorem actConfigGet_state : (actConfigGet body s).state = s := by
  simp only [actConfigGet]
  (repeat' split) <;> rfl

theorem actStatus_state : (actStatus body s).state = s := by
  simp only [actStatus]
  split <;> rfl

end

namespace Kept

variable {P : State → Prop} (k : Kept P) {s : State}
include k

/-! ## Notices, links and waiting -/

theorem emit (n : Notice) (h : P s) : P (s.emit n) := k.rest (by simp) h

theorem emitAll (ns : List Notice) (h : P s) : P (s.emitAll ns) := k.rest (by simp) h

theorem nextDraw (h : P s) : P s.nextDraw := k.rest (by simp) h

theorem withStore (v : Store) (h : P s) : P (s.withStore v) := k.rest (by simp) h

theorem withAliases (v : Vector (Option AliasEntry) 8) (h : P s) : P (s.withAliases v) := k.rest (by simp) h

theorem withLink (l : LinkId) (v : Link) (h : P s) : P (s.withLink l v) := k.rest (by simp) h

theorem removeOut (l : LinkId) (p : OutMsg → Bool) (h : P s) : P (s.removeOut l p) := k.rest (by simp) h

theorem waitAndOffer {slot : Nat} {r : Record} (c : Cause) (hr : (slot, r) ∈ s.table) (auto : r.policy = .auto)
    (live : r.state ≠ .faulted)
    (free : r.standing = .idle ∨ (∃ d, r.standing = .waiting d) ∨ ∃ n, r.standing = .retry n) (h : P s) :
    P (s.waitAndOffer slot r.key c).1 :=
  k.offer (r := { r with standing := .waiting c }) (State.mem_setStanding _ hr) rfl (k.edit hr (.wait r c auto live free) h)

/-! ## Markings and offers -/

theorem mark {slot : Nat} {r x : Record} (m : Marker) (hx : (slot, x) ∈ s.table) (key : x.key = r.key)
    (standing : x.standing = r.standing) (auto : x.policy = .auto) (live : x.state ≠ .faulted) (h : P s) :
    P (s.mark m slot r).1 := by
  obtain e | ⟨c, hc, e⟩ | ⟨free, c, e⟩ := s.mark_cases m slot r <;> rw [e]
  · exact h
  · exact key ▸ k.promote hx (standing.trans hc) h
  · exact key ▸ k.waitAndOffer c hx auto live (standing ▸ free) h

theorem markAlert {slot : Nat} {r : Record} (hr : (slot, r) ∈ s.table) (auto : r.policy = .auto)
    (live : r.state ≠ .faulted) (h : P s) : P (s.markAlert slot r).1 := by
  rw [State.markAlert_eq]
  exact k.mark .alert (State.mem_modRecord _ hr) rfl rfl auto (Record.alerted_live _ live) (k.edit hr (.alert r _) h)

omit k in
/-- A marking pass over slots whose records are AUTO and not FAULTED, by a marking that keeps the property, and the policy and the
liveness of every record. -/
theorem markPass {mark : State → Nat → Record → State × Option RefreshAction}
    (keeps : ∀ {s : State} {slot : Nat} {r : Record}, (slot, r) ∈ s.table → r.policy = .auto → r.state ≠ .faulted → P s →
      P (mark s slot r).1)
    (others : ∀ (s : State) (slot : Nat) (r : Record), s.table.KeepsSeekers (mark s slot r).1.table)
    {slots : List Nat} (seek : ∀ n ∈ slots, s.table.Seeker n) (h : P s) : P (s.markPass mark slots).1 := by
  induction slots generalizing s with
  | nil => exact h
  | cons slot rest ih =>
    rw [List.forall_mem_cons] at seek
    simp only [State.markPass]
    split
    next => exact ih seek.2 h
    next r found =>
      obtain ⟨auto, live⟩ := seek.1 r found
      exact ih (fun n hn => others s slot r n (seek.2 n hn)) (keeps (Table.mem_of_get found) auto live h)

theorem offerPass (slots : List Nat) (h : P s) : P (s.offerPass slots) := by
  induction slots generalizing s with
  | nil => exact h
  | cons slot rest ih =>
    simp only [State.offerPass]
    split
    next => exact ih h
    next r found =>
      split
      next c waiting => exact ih (k.offer (Table.mem_of_get found) waiting h)
      next => exact ih h

/-! ## Sweeps -/

theorem withSweep {e : EngineId} {w v : Sweep} (run : s.sweep e = some w) (slot : v.slot = w.slot) (key : v.key = w.key)
    (h : P s) : P (s.withSweep e (some v)) := k.progress run slot key h

theorem makeRequest {e : EngineId} {w v : Sweep} (run : s.sweep e = some w) (slot : v.slot = w.slot) (key : v.key = w.key)
    (h : P s) : P (s.makeRequest e v) :=
  k.progress (by simpa using run) slot key (k.withLink _ _ h)

theorem startRun {e : EngineId} {w v : Sweep} (run : s.sweep e = some w) (slot : v.slot = w.slot) (key : v.key = w.key)
    (h : P s) : P (s.startRun e v) := k.makeRequest run slot key h

/-- The end of a sweep, under any context of it that the engine's action has brought forward. -/
theorem finishAs {e : EngineId} {w v : Sweep} {f : Record → Record} (run : s.sweep e = some w) (slot : v.slot = w.slot)
    (key : v.key = w.key) (hf : ∀ r : Record, (v.slot, r) ∈ s.table → r.Finish (f r)) (h : P s) :
    P ((s.clearEngine e v).modRecord v.slot f) := by
  have same : s.clearEngine e v = s.clearEngine e w := by simp [State.clearEngine, key]
  rw [same, slot]
  exact k.finish run (slot ▸ hf) h

/-- An engine whose record is not in the table is only cleared. -/
theorem clearLost {e : EngineId} {w v : Sweep} (run : s.sweep e = some w) (slot : v.slot = w.slot) (key : v.key = w.key)
    (lost : Table.get s.table v.slot = none) (h : P s) : P (s.clearEngine e v) := by
  have := k.finishAs (f := id) run slot key (fun r hr => absurd hr (Table.not_mem_of_get_none lost)) h
  rwa [State.modRecord, Table.modify_of_get_none (by simpa using lost)] at this

theorem endCommitted {e : EngineId} {w v : Sweep} (run : s.sweep e = some w) (slot : v.slot = w.slot) (key : v.key = w.key)
    (x : Values) (h : P s) : P (s.endCommitted e v x) := by
  simp only [State.endCommitted]
  split
  next lost => exact k.clearLost run slot key lost h
  next r found =>
    have done := k.finishAs run slot key (fun y _ => Record.Finish.commit y s.params x
      (if storesProfile v.plan.capture (s.poolFree + r.profilePoints) v.points.length then
        some { level := v.level, points := v.points } else none)) h
    exact k.emit _ (k.rest (by simp [State.takeCommit]) done)

theorem takeFailure {e : EngineId} {w v : Sweep} (run : s.sweep e = some w) (slot : v.slot = w.slot) (key : v.key = w.key)
    {r : Record} (found : Table.get s.table v.slot = some r) (reason : FailReason) (h : P s) :
    P ((s.clearEngine e v).takeFailure v.slot r reason) := by
  have mem : (v.slot, r) ∈ (s.clearEngine e v).table := by simpa using Table.mem_of_get found
  simp only [State.takeFailure]
  split
  next => exact k.emit _ (k.finishAs run slot key (fun x _ => .fault x) h)
  next =>
    split
    next =>
      have waiting := k.finishAs run slot key (fun x _ => .fail x (.waiting .retry) (.inl rfl)) h
      refine k.offer (r := r.failed (.waiting .retry)) (State.mem_setStanding _ (State.mem_modRecord _ mem)) rfl ?_
      rwa [State.setStanding, State.modRecord_modRecord]
    next delay =>
      rw [State.setStanding, State.modRecord_modRecord]
      exact k.finishAs run slot key (fun x _ => .fail x (.retry _) (.inr ⟨_, delay, rfl⟩)) h

theorem endFailed {e : EngineId} {w v : Sweep} (run : s.sweep e = some w) (slot : v.slot = w.slot) (key : v.key = w.key)
    (reason : FailReason) (h : P s) : P (s.endFailed e v reason) := by
  simp only [State.endFailed]
  split
  next lost => exact k.clearLost run slot key lost h
  next r found => exact k.emit _ (k.takeFailure run slot key found reason h)

theorem computeAndEnd {e : EngineId} {w v : Sweep} (run : s.sweep e = some w) (slot : v.slot = w.slot) (key : v.key = w.key)
    (h : P s) : P (s.computeAndEnd e v) := by
  simp only [State.computeAndEnd]
  split
  next x _ => exact k.endCommitted run slot key x h
  next reason _ => exact k.endFailed run slot key reason h

theorem endLinkFailed {e : EngineId} {w : Sweep} (run : s.sweep e = some w) (h : P s) : P (s.endLinkFailed e w) :=
  k.emit _ (k.linkFailed (by simpa using run) (k.removeOut _ _ h))

/-! ## Links that leave UP -/

theorem leaveUp (l : LinkId) (reason : LinkReason) (h : P s) : P (s.leaveUp l reason) := by
  have depart {t : State} (ht : P t) : P (t.departUp l reason).nextDraw := k.rest (by simp) ht
  simp only [State.leaveUp]
  split
  next e _ =>
    split
    next w run => exact depart (k.endLinkFailed run h)
    next => exact depart h
  next => exact depart h

theorem protocolFault (l : LinkId) (h : P s) : P (s.protocolFault l) := by
  simp only [State.protocolFault]
  split
  · exact k.leaveUp l .protocol (k.withLink _ _ h)
  · exact k.withLink _ _ h

theorem abortForDisable (l : LinkId) (h : P s) : P (s.abortForDisable l) := by
  simp only [State.abortForDisable]
  split
  next => exact h
  next e _ =>
    split
    next => exact h
    next w run =>
      exact k.emit _ (k.finish (by simpa using run) (fun r _ => .resume r w.cause) (k.removeOut _ _ h))

theorem disableLink (l : LinkId) (h : P s) : P (s.disableLink l) := by
  have h₁ : P (s.enableLink l false) := k.rest (by simp) h
  have quiet {t : State} (ht : P t) : P ((t.quietLink l).emit (hostNotice l .off)).nextDraw := k.rest (by simp) ht
  simp only [State.disableLink]
  split
  · exact h₁
  · exact quiet (k.dropLinkEntries l h₁)
  · exact quiet (k.dropLinkEntries l (k.abortForDisable l h₁))

theorem reenableLink (l : LinkId) (h : P s) : P (s.reenableLink l) := k.rest (by simp) h

/-! ## Answers of the front end and timers -/

theorem acceptAnswer (l : LinkId) {e : EngineId} {w : Sweep} (run : s.sweep e = some w) (h : P s) : P (s.acceptAnswer l e w) :=
  k.progress (w := w) (by simpa using run) rfl rfl (k.withLink _ _ h)

theorem actOnResult {e : EngineId} {w : Sweep} (run : s.sweep e = some w) (c : Condition) (first second : Word) (h : P s) :
    P (s.actOnResult e w c first second) := by
  simp only [State.actOnResult]
  split
  next => 
    cases c with
    | good => exact k.startRun run rfl rfl h
    | saturated => exact k.endFailed run rfl rfl .saturated h
    | invalid => exact k.endFailed run rfl rfl .invalid h
  next i _ =>
    cases c with
    | good =>
      simp only [State.pointResult, State.goodPoint]
      (repeat' split)
      · exact k.makeRequest run rfl rfl h
      · exact k.computeAndEnd run rfl rfl h
      · exact k.endFailed run rfl rfl .invalid h
    | saturated =>
      simp only [State.pointResult, State.saturatedPoint]
      split
      · exact k.startRun run rfl rfl h
      · exact k.endFailed run rfl rfl .saturated h
    | invalid => exact k.endFailed run rfl rfl .invalid h

omit k in
/-- The sweep that awaits an answer is its engine's. -/
theorem sweep_of_awaiting {l : LinkId} {n : Byte} {e : EngineId} {w : Sweep} (h : s.awaiting l n = some (e, w)) :
    s.sweep e = some w := by
  simp only [State.awaiting] at h
  repeat' split at h
  all_goals simp_all

theorem calResult (l : LinkId) (n c : Byte) (first second : Word) (h : P s) : P (s.calResult l n c first second) := by
  simp only [State.calResult]
  split
  next => exact h
  next e w found =>
    exact k.actOnResult (by simp [State.acceptAnswer]) _ first second (k.acceptAnswer l (sweep_of_awaiting found) h)

theorem calDeclined (l : LinkId) (n : Byte) (h : P s) : P (s.calDeclined l n) := by
  simp only [State.calDeclined]
  split
  next => exact h
  next e w found =>
    have run : (s.acceptAnswer l e w).sweep e = some { w with awaited := none, timer := .stopped } := by
      simp [State.acceptAnswer]
    have h₁ := k.acceptAnswer l (sweep_of_awaiting found) h
    simp only [State.actOnDecline]
    split
    · exact k.endFailed run rfl rfl .declined h₁
    · exact k.progress run rfl rfl h₁

theorem requestTimeout {e : EngineId} {w : Sweep} (run : s.sweep e = some w) (h : P s) : P (s.requestTimeout e w) := by
  simp only [State.requestTimeout]
  generalize ht : State.withSweep _ e _ = t
  have run' : t.sweep e = some { w with awaited := none, timer := .stopped } := by simp [← ht]
  have h' : P t := ht ▸ k.progress (w := w) (by simpa using run) rfl rfl (k.withLink _ _ h)
  (repeat' split)
  · exact k.leaveUp _ .silent h'
  · exact k.makeRequest run' rfl rfl h'
  · exact k.endFailed run' rfl rfl .timeout h'

theorem sentEffects (l : LinkId) (m : OutMsg) (h : P s) : P (s.sentEffects l m) := by
  simp only [State.sentEffects]
  (repeat' split)
  · exact h
  · exact h
  · exact k.withLink _ _ h
  next e w found => exact k.progress (sweep_of_awaiting found) rfl rfl h
  · exact h

theorem frameSent (l : LinkId) (h : P s) : P (s.frameSent l) := by
  simp only [State.frameSent]
  split
  · exact h
  · exact k.sentEffects l _ (k.withLink _ _ h)

/-! ## Records that requests and lookups make, change and remove -/

theorem createRecord {slot : Nat} {key : Key} (policy : Policy) (pin : Bool) (values : Option Values) (base stamp : Nat)
    (free : s.LowestFree slot) (lacks : s.Lacks key) (h : P s) :
    P (s.createRecord slot (newRecord key policy pin values base stamp)) := by
  have placed := k.place policy pin values base stamp free lacks h
  simp only [State.createRecord]
  split
  next c waiting => exact k.offer (Table.mem_put_self _ _ _) waiting placed
  next => exact placed

theorem createClaim (key : Key) (policy : Policy) (pin : Bool) (values : Option Values) (h : P s) :
    P (s.createClaim key policy pin values).state := by
  simp only [State.createClaim]
  split
  next => exact h
  next absent =>
    split
    next => exact h
    next slot free =>
      exact k.createRecord policy pin values _ _ (State.lowestFree_some.1 free) (Table.findKey_none.1 absent) h

theorem serve (tag : Fin 4) {slot : Nat} {r : Record} (aliased : Bool) (hr : (slot, r) ∈ s.table) (h : P s) :
    P (s.serve tag slot r aliased).1 := k.edit hr (.stamp r s.epochCount) h

theorem autoCreate (tag : Fin 4) {key : Key} (lacks : s.Lacks key) (h : P s) : P (s.autoCreate tag key).1 := by
  cases free : Table.lowestFree s.table with
  | some slot =>
    rw [State.autoCreate_free free]
    exact k.createRecord .auto false none _ _ (State.lowestFree_some.1 free) lacks h
  | none =>
    cases found : Table.evictionCandidate s.table with
    | none => rwa [State.autoCreate_miss free found]
    | some c =>
      rw [State.autoCreate_evict free found]
      obtain ⟨hc, old⟩ := Table.evictionCandidate_some found
      exact k.createRecord .auto false none _ _ (State.evict_lowestFree (k.tableOk h) hc (Table.lowestFree_none.1 free))
        (State.evict_lacks lacks) (k.emit (.evicted c.2.key c.1 c.2.state key) (k.evict hc old h))

theorem answerOwn (tag : Fin 4) (key : Key) (h : P s) : P (s.answerOwn tag key).1 := by
  simp only [State.answerOwn]
  split
  next slot r found => exact k.serve tag false (Table.findKey_some found).1 h
  next absent =>
    split
    · exact k.autoCreate tag (Table.findKey_none.1 absent) h
    · exact h

theorem answerAliased (tag : Fin 4) (key : Key) (a : AliasEntry) (h : P s) : P (s.answerAliased tag key a).1 := by
  simp only [State.answerAliased]
  split
  next =>
    split
    next slot r found => exact k.serve tag true (Table.findKey_some found).1 h
    next => exact h
  next =>
    split
    next slot r found => exact k.serve tag false (servable_some found) h
    next =>
      split
      next slot r found => exact k.serve tag true (servable_some found) h
      next => exact k.answerOwn tag key h

theorem answerLookup (l : LinkId) (tag : Fin 4) (channel tone gain : Byte) (h : P s) :
    P (s.answerLookup l tag channel tone gain).1 := by
  simp only [State.answerLookup, State.answerKey]
  (repeat' split)
  · exact k.answerAliased tag _ _ h
  · exact k.answerOwn tag _ h
  · exact h
  · exact h

theorem lookup (l : LinkId) (tag channel tone gain : Byte) (h : P s) : P (s.lookup l tag channel tone gain) := by
  simp only [State.lookup]
  (repeat' split)
  · exact k.protocolFault l h
  · exact k.protocolFault l h
  · exact k.withLink _ _ (k.answerLookup l _ channel tone gain (k.withLink _ _ h))

/-! ## Requests -/

theorem takeRequest {act : List Byte → State → Answer} (keeps : ∀ {s : State} body, P s → P (act body s).state) (kind : Byte)
    (body : List Byte) (h : P s) : P (s.takeRequest kind body act) := by
  have begun : P s.beginRequest := k.rest (by simp) h
  simp only [State.takeRequest]
  split
  · exact k.rest (by simp) (keeps body begun)
  · exact h

omit k in
theorem onRecord {act : Nat → Record → Answer} (key : Key) (keeps : ∀ slot r, (slot, r) ∈ s.table → P (act slot r).state)
    (h : P s) : P (s.onRecord key act).state := by
  simp only [State.onRecord]
  split
  next => exact h
  next slot r found => exact keeps slot r (Table.findKey_some found).1

omit k in
theorem keyRequest {act : Nat → Record → Answer} (body : List Byte)
    (keeps : ∀ slot r, (slot, r) ∈ s.table → P (act slot r).state) (h : P s) : P (s.keyRequest body act).state := by
  simp only [State.keyRequest]
  (repeat' split)
  · exact h
  · exact h
  · exact onRecord _ keeps h

theorem actCreate (body : List Byte) (h : P s) : P (actCreate body s).state := by
  simp only [Machine.actCreate]
  (repeat' split)
  · exact h
  · exact h
  · exact h
  · exact k.createClaim _ _ _ _ h
  · exact k.createClaim _ _ _ _ h
  · exact h

theorem load {slot : Nat} {r : Record} (base : Nat) (v : Values) (hr : (slot, r) ∈ s.table) (h : P s) :
    P (((s.withdraw slot r .superseded).freeProfile slot r).modRecord slot fun r => r.loaded base v) := by
  rw [State.freeProfile, State.modRecord_modRecord]
  have settled := k.settle (f := fun x => ({ x with profile := none } : Record).loaded base v) .superseded hr (.load r base v) h
  refine k.rest ?_ settled
  exact ⟨rfl, rfl, rfl, rfl⟩

theorem actLoad (body : List Byte) (h : P s) : P (actLoad body s).state := by
  simp only [Machine.actLoad]
  (repeat' split)
  · exact h
  · exact h
  · exact h
  next v _ => exact onRecord _ (fun slot r hr => k.load _ v hr h) h

theorem actRetire (body : List Byte) (h : P s) : P (actRetire body s).state :=
  keyRequest body (fun _ _ hr => k.retire .aborted hr h) h

theorem makeAuto {slot : Nat} {r : Record} (pin : Bool) (hr : (slot, r) ∈ s.table) (fixed : r.policy = .fixed) (h : P s) :
    P (s.makeAuto slot r pin) := by
  have handed := k.edit (f := (·.handedOver (r.madeAuto s.params.staleLimit).1 pin)) hr (.handOver r _ pin fixed) h
  simp only [State.makeAuto]
  split
  next c seeks =>
    exact k.waitAndOffer (r := r.handedOver (r.madeAuto s.params.staleLimit).1 pin) c (State.mem_modRecord _ hr) rfl
      (Record.madeAuto_live seeks) (.inl rfl) handed
  next => exact handed

theorem setPolicyClaim {slot : Nat} {r : Record} (policy : Policy) (pin : Bool) (hr : (slot, r) ∈ s.table) (h : P s) :
    P (s.setPolicyClaim slot r policy pin) := by
  simp only [State.setPolicyClaim]
  split
  next => exact k.settle .superseded hr (.fix r pin) h
  next isFixed => exact k.makeAuto pin hr isFixed h
  next => exact k.edit hr (.pin r pin) h

theorem actSetPolicy (body : List Byte) (h : P s) : P (actSetPolicy body s).state := by
  simp only [Machine.actSetPolicy]
  (repeat' split)
  · exact h
  · exact h
  next policy pin _ _ => exact onRecord _ (fun slot r hr => k.setPolicyClaim policy pin hr h) h
  · exact h

theorem refreshClaim {slot : Nat} {r : Record} (hr : (slot, r) ∈ s.table) (auto : r.policy = .auto) (h : P s) :
    P (s.refreshClaim slot r).1 := by
  simp only [State.refreshClaim]
  split
  next faulted =>
    refine k.offer (r := { r.restarted s.params.staleLimit with standing := .waiting .requested })
      (State.mem_setStanding _ (State.mem_modRecord _ hr)) rfl ?_
    rw [State.setStanding, State.modRecord_modRecord]
    exact k.edit hr (.restart r _ auto faulted) h
  next live => exact k.mark .host hr rfl rfl auto live h

theorem actRefresh (body : List Byte) (h : P s) : P (actRefresh body s).state := by
  refine keyRequest body (fun slot r hr => ?_) h
  split
  next => exact h
  next policy =>
    have auto : r.policy = .auto := by cases hp : r.policy <;> simp_all
    have claimed := k.refreshClaim hr auto h
    split
    next => exact h
    next =>
      split
      next s' a found => simpa only [found] using claimed
      next => exact h

theorem actRefreshScope (body : List Byte) (h : P s) : P (actRefreshScope body s).state := by
  simp only [Machine.actRefreshScope]
  (repeat' split)
  · exact h
  · exact h
  · exact h
  · refine markPass (fun hr auto live => k.mark .host hr rfl rfl auto live)
      (fun s slot r => (s.mark_sameButStandings .host slot r).keepsSeekers) ((k.tableOk h).seekers fun r hr => ?_) h
    simp only [inScope, Bool.and_eq_true, beq_iff_eq, bne_iff_ne] at hr
    exact ⟨hr.1.1.2, hr.1.2⟩

theorem markAlertPass {p : Record → Bool} (hp : ∀ r, p r = true → r.policy = .auto ∧ r.state.serves = true) (h : P s) :
    P (s.markPass State.markAlert (Table.slotsWhere s.table p)).1 := by
  refine markPass (fun hr auto live => k.markAlert hr auto live) State.markAlert_keepsSeekers
    ((k.tableOk h).seekers fun r hr => ⟨(hp r hr).1, fun e => ?_⟩) h
  simpa [e, RecState.serves] using (hp r hr).2

theorem actTonePlanSet (body : List Byte) (h : P s) : P (actTonePlanSet body s).state := by
  simp only [Machine.actTonePlanSet]
  (repeat' split)
  · exact h
  · exact h
  · refine k.markAlertPass (fun r hr => ?_) (k.withStore _ h)
    simp only [invalidated, Bool.and_eq_true, beq_iff_eq] at hr
    exact ⟨hr.1.2, hr.2⟩
  · exact k.withStore _ h
  · exact h

theorem driftAlert (l : LinkId) (channels tones : Byte) (h : P s) : P (s.driftAlert l channels tones) := by
  refine k.markAlertPass (fun r hr => ?_) h
  simp only [drifts, Bool.and_eq_true, beq_iff_eq] at hr
  exact ⟨hr.1.2, hr.2⟩

theorem mapInterval (f : Nat → Nat) (h : P s) : P (s.withTable (Table.mapInterval s.table f)) :=
  k.editAll (f := fun r => { r with interval := f r.interval }) (fun r => .interval r _) h

theorem moveIntervals (id : ParamId) (v : Nat) (h : P s) : P (s.moveIntervals id v) := by
  simp only [State.moveIntervals]
  split
  · exact k.mapInterval _ h
  · exact k.mapInterval _ h
  · exact h

theorem actConfigSet (body : List Byte) (h : P s) : P (actConfigSet body s).state := by
  simp only [Machine.actConfigSet]
  (repeat' split)
  · exact h
  · exact h
  next id _ _ => exact k.withStore _ (k.moveIntervals id _ h)
  · exact h

theorem actLinkControl (body : List Byte) (h : P s) : P (actLinkControl body s).state := by
  simp only [Machine.actLinkControl]
  (repeat' split)
  · exact h
  · exact h
  · exact h
  · exact k.reenableLink _ h
  · exact k.disableLink _ h

theorem softResetTable (s : State) : P s.softResetTable := by
  have engines (e : EngineId) : s.softResetTable.sweep e = none := by
    cases e <;> simp [State.softResetTable, State.clearTable]
  exact k.clear rfl rfl (engines .se0) (engines .se1)

theorem softResetFull (s : State) : P s.softResetFull := by
  refine k.rest (s := s.softResetTable) ?_ (k.softResetTable s)
  simp [State.softResetFull]

theorem actSoftReset (body : List Byte) (h : P s) : P (actSoftReset body s).state := by
  simp only [Machine.actSoftReset]
  (repeat' split)
  · exact h
  · exact h
  · exact k.nextDraw (k.softResetFull s)
  · exact k.nextDraw (k.softResetTable s)

theorem actAliasSet (body : List Byte) (h : P s) : P (actAliasSet body s).state := by
  simp only [Machine.actAliasSet]
  (repeat' split)
  · exact h
  · exact h
  · exact h
  · exact k.withAliases _ h
  · exact h

theorem actAliasClear (body : List Byte) (h : P s) : P (actAliasClear body s).state := by
  simp only [Machine.actAliasClear, State.indexRequest]
  (repeat' split)
  · exact h
  · exact h
  · exact k.withAliases _ h

theorem actLevelSet (body : List Byte) (h : P s) : P (actLevelSet body s).state := by
  simp only [Machine.actLevelSet]
  (repeat' split)
  · exact h
  · exact h
  · exact h
  · exact k.withStore _ h

theorem actByKind (kind : Byte) (body : List Byte) (h : P s) : P (actByKind kind body s).state := by
  simp only [Machine.actByKind]
  split
  next act found =>
    simp only [actOf?] at found
    split at found <;> cases found
    · exact k.actCreate body h
    · exact k.actLoad body h
    · rwa [actRead_state]
    · exact k.actRetire body h
    · exact k.actSetPolicy body h
    · exact k.actRefresh body h
    · exact k.actRefreshScope body h
    · rwa [actScan_state]
    · exact k.actAliasSet body h
    · exact k.actAliasClear body h
    · rwa [actAliasRead_state]
    · exact k.actTonePlanSet body h
    · rwa [actTonePlanRead_state]
    · exact k.actLevelSet body h
    · rwa [actLevelRead_state]
    · exact k.actConfigSet body h
    · rwa [actConfigGet_state]
    · exact k.actLinkControl body h
    · rwa [actStatus_state]
    · exact k.actSoftReset body h
  next => exact h

/-! ## Frames and timers -/

theorem takeUp (l : LinkId) (kind : Byte) (body : List Byte) (h : P s) : P (s.takeUp l kind body) := by
  simp only [State.takeUp]
  (repeat' split)
  · exact k.lookup l _ _ _ _ h
  · exact k.calResult l _ _ _ _ h
  · exact k.calDeclined l _ h
  · exact k.driftAlert l _ _ h
  · exact k.leaveUp l .partner h
  · exact k.protocolFault l h

theorem helloAck (l : LinkId) (body : List Byte) (h : P s) : P (s.helloAck l body) := by
  simp only [State.helloAck]
  (repeat' split)
  · exact h
  · exact k.protocolFault l h
  · exact k.rest (by simp) h
  · exact k.rest (by simp) h

theorem takeFrame (l : LinkId) (kind : Byte) (body : List Byte) (h : P s) : P (s.takeFrame l kind body) := by
  simp only [State.takeFrame]
  (repeat' split)
  · exact h
  · exact k.helloAck l body h
  · exact h
  · exact k.takeUp l kind body h

theorem arrive {act : State → State} (l : LinkId) (kind : Byte) (body : List Byte) (keeps : ∀ {s : State}, P s → P (act s)) (h : P s) :
    P (s.arrive l kind body act) := by
  simp only [State.arrive]
  split
  · exact h
  · exact keeps (k.withLink _ _ h)

omit k in
theorem whenUp {t : State} (l : LinkId) (ht : P t) (h : P s) : P (s.whenUp l t) := by
  simp only [State.whenUp]
  split
  · exact ht
  · exact h

theorem consider (h : P s) : P s.consider :=
  k.rest (s := (s.offerDispatch .se0).offerDispatch .se1) ⟨rfl, rfl, rfl, rfl⟩ (k.dispatch .se1 (k.dispatch .se0 h))

theorem countdownEnded (slot : Nat) (h : P s) :
    P (s.modRecord slot fun r => { r with standing := r.standing.countdownEnded }) := by
  cases found : Table.get s.table slot with
  | some r => exact k.edit (Table.mem_of_get found) (.countdownEnded r) h
  | none => rwa [State.modRecord, Table.modify_of_get_none found]

theorem ageAll (h : P s) : P s.ageAll := by
  refine k.rest ?_ (k.editAll (f := (·.expired s.params.staleLimit)) (fun r => .expire r _) h)
  simp [State.ageAll]

theorem epochExpiry (h : P s) : P s.startEpoch.ageAll.offerWaiting :=
  k.offerPass _ (k.offerPass _ (k.ageAll (k.rest (by simp) h)))

theorem checkPartner {e : EngineId} {w : Sweep} (run : s.sweep e = some w) (h : P s) : P (s.checkPartner e w) := by
  simp only [State.checkPartner]
  split
  · exact k.makeRequest run rfl rfl h
  · exact k.endFailed run rfl rfl .invalid h

/-! ## The commands -/

omit k in
theorem running {s' t : State} (h : P s) (h' : P s') (e : whileRunning s s' = .next t) : P t := by
  simp only [whileRunning, Host.Outcome.next.injEq] at e
  subst e
  split
  · exact h'
  · exact h

/-- Every command keeps the property. -/
theorem exec {c : Instr} {t : State} (h : P s) (e : exec c s = .next t) : P t := by
  cases c with
  | powerOnReset csLow =>
    cases e
    exact k.clear rfl rfl rfl rfl
  | rstNAsserted =>
    cases e
    exact k.rest (by simp) h
  | requestWrite fall bytes rise => exact running h (k.rest (by simp) h) e
  | replyRead fall count rise => exact running h (k.rest (by simp) h) e
  | portStatus fall count rise => exact running h (k.rest (by simp) h) e
  | commandByteUnknown cmd fall count rise => exact running h (k.rest (by simp) h) e
  | unknownKind kind body => exact running h (k.takeRequest (k.actByKind kind) _ _ h) e
  | create body => exact running h (k.takeRequest k.actCreate _ _ h) e
  | load body => exact running h (k.takeRequest k.actLoad _ _ h) e
  | read body => exact running h (k.takeRequest (fun b h => by rwa [actRead_state]) _ _ h) e
  | retire body => exact running h (k.takeRequest k.actRetire _ _ h) e
  | setPolicyFixed id key pin => exact running h (k.takeRequest k.actSetPolicy _ _ h) e
  | setPolicyAuto id key pin => exact running h (k.takeRequest k.actSetPolicy _ _ h) e
  | refresh body => exact running h (k.takeRequest k.actRefresh _ _ h) e
  | refreshScope body => exact running h (k.takeRequest k.actRefreshScope _ _ h) e
  | scan body => exact running h (k.takeRequest (fun b h => by rwa [actScan_state]) _ _ h) e
  | aliasSet body => exact running h (k.takeRequest k.actAliasSet _ _ h) e
  | aliasClear body => exact running h (k.takeRequest k.actAliasClear _ _ h) e
  | aliasRead body => exact running h (k.takeRequest (fun b h => by rwa [actAliasRead_state]) _ _ h) e
  | tonePlanSet body => exact running h (k.takeRequest k.actTonePlanSet _ _ h) e
  | tonePlanRead body => exact running h (k.takeRequest (fun b h => by rwa [actTonePlanRead_state]) _ _ h) e
  | levelSet body => exact running h (k.takeRequest k.actLevelSet _ _ h) e
  | levelRead body => exact running h (k.takeRequest (fun b h => by rwa [actLevelRead_state]) _ _ h) e
  | configSet body => exact running h (k.takeRequest k.actConfigSet _ _ h) e
  | configGet body => exact running h (k.takeRequest (fun b h => by rwa [actConfigGet_state]) _ _ h) e
  | linkControlDisable id link => exact running h (k.takeRequest k.actLinkControl _ _ h) e
  | linkControlEnable id link => exact running h (k.takeRequest k.actLinkControl _ _ h) e
  | status body => exact running h (k.takeRequest (fun b h => by rwa [actStatus_state]) _ _ h) e
  | softResetTable id => exact running h (k.takeRequest k.actSoftReset _ _ h) e
  | softResetFull id => exact running h (k.takeRequest k.actSoftReset _ _ h) e
  | epochExpiry => exact running h (k.epochExpiry h) e
  | retryCountdownExpiry slot => exact running h (k.countdownEnded slot h) e
  | dispatch => exact running h (k.consider h) e
  | partnerCheck engine =>
    refine running h ?_ e
    (repeat' split)
    next run _ => exact k.checkPartner run h
    · exact h
    · exact h
  | requestTimerExpiry engine =>
    refine running h ?_ e
    (repeat' split)
    next run _ _ _ => exact k.requestTimeout run h
    · exact h
    · exact h
  | waitTimerExpiry engine =>
    refine running h ?_ e
    (repeat' split)
    next run _ _ _ => exact k.makeRequest run rfl rfl h
    · exact h
    · exact h
  | helloTimerExpiry link =>
    refine running h ?_ e
    split
    · exact k.withLink _ _ h
    · exact h
  | outboundFrameSent link => exact running h (k.frameSent link h) e
  | frameCheckFailure link chars stopMissing =>
    refine running h ?_ e
    split
    · exact h
    · exact k.withLink _ _ h
  | incompleteFrame link =>
    refine running h ?_ e
    split
    · exact h
    · exact k.withLink _ _ h
  | helloAck link body => exact running h (k.arrive link _ _ (k.helloAck link body) h) e
  | lookup link tag channel tone gain =>
    exact running h (k.arrive link _ _ (fun h => whenUp link (k.lookup link tag channel tone gain h) h) h) e
  | calResult link sequence condition first second =>
    exact running h (k.arrive link _ _ (fun h => whenUp link (k.calResult link sequence condition first second h) h) h) e
  | calDeclined link sequence =>
    exact running h (k.arrive link _ _ (fun h => whenUp link (k.calDeclined link sequence h) h) h) e
  | driftAlert link channelMask toneMask =>
    exact running h (k.arrive link _ _ (fun h => whenUp link (k.driftAlert link channelMask toneMask h) h) h) e
  | goodbye link => exact running h (k.arrive link _ _ (fun h => whenUp link (k.leaveUp link .partner h) h) h) e
  | unknownFrameKind link kind body => exact running h (k.arrive link _ _ (k.takeFrame link kind body) h) e
  | setPolicyRefused body => exact running h (k.takeRequest k.actSetPolicy _ _ h) e
  | linkControlRefused body => exact running h (k.takeRequest k.actLinkControl _ _ h) e
  | softResetRefused body => exact running h (k.takeRequest k.actSoftReset _ _ h) e

/-- Every step keeps the property. -/
theorem step {t : State} (h : P s) (e : step s = .next t) : P t := by
  simp only [Machine.step] at e
  split at e
  · cases e
    exact h
  · refine k.exec (k.rest ?_ h) e
    exact ⟨rfl, rfl, rfl, rfl⟩

end Kept
end Sys2Proof.Machine
end

section
/-! Records stay sound (O6): each change that a claim makes of a record keeps its fields within what its state allows, and the table
keeps its form. -/

namespace Sys2Proof.Machine

/-! ## The changes of one record -/

theorem Record.Edit.key {r r' : Record} (h : r.Edit r') : r'.key = r.key := by
  cases h with
  | expire staleLimit =>
    simp only [Record.expired, Record.ageDriven]
    split <;> rfl
  | _ => rfl

theorem Record.Settle.key {r r' : Record} (h : r.Settle r') : r'.key = r.key := by cases h <;> rfl

theorem Record.Finish.key {r r' : Record} (h : r.Finish r') : r'.key = r.key := by cases h <;> rfl

theorem Record.Sound.withStanding {r : Record} (h : r.Sound) (st : Standing) : ({ r with standing := st } : Record).Sound := h

theorem Record.Sound.alerted {r : Record} (h : r.Sound) (base : Nat) : (r.alerted base).Sound := by
  obtain ⟨pending, held, profile, count⟩ := h
  cases hs : r.state <;> simp_all [Record.Sound, Record.alerted]

theorem Record.Sound.restarted {r : Record} (h : r.Sound) (staleLimit : Nat) : (r.restarted staleLimit).Sound := by
  obtain ⟨-, -, profile, -⟩ := h
  have image : (r.restarted staleLimit).state = if r.held.isNone then .pending else if r.age < staleLimit then .due else .stale := rfl
  refine ⟨fun e => ?_, fun e hn => ?_, profile, fun _ => rfl⟩
  · rw [image] at e
    split at e
    next absent => exact Option.isNone_iff_eq_none.1 absent
    next => split at e <;> cases e
  · rw [image, show r.held = none from hn] at e
    simp at e

/-- A change of state alone, to one that the record's values and fail count allow. -/
theorem Record.Sound.withState {r : Record} (h : r.Sound) {st : RecState} (pending : st = .pending → r.state = .pending)
    (held : st = .valid ∨ st = .due ∨ st = .suspect ∨ st = .stale → r.held ≠ none)
    (count : st = .valid ∨ st = .due → r.failCount = 0) : ({ r with state := st } : Record).Sound :=
  ⟨fun e => h.1 (pending e), held, h.2.2.1, count⟩

theorem Record.Sound.handedOver {r : Record} (h : r.Sound) (staleLimit : Nat) (pin : Bool) :
    (r.handedOver (r.madeAuto staleLimit).1 pin).Sound := by
  suffices ({ r with state := (r.madeAuto staleLimit).1 } : Record).Sound from this
  obtain ⟨pending, held, profile, count⟩ := id h
  simp only [Record.madeAuto]
  split
  next hs => exact h.withState (fun _ => hs) (by simp) (by simp)
  next hs =>
    refine h.withState ?_ (fun _ => held (.inl hs)) fun _ => count (.inl hs)
    (repeat' split) <;> simp
  next => exact h

/-- The age-driven state is one that the record's values and fail count allow (R52, R53). -/
theorem Record.Sound.agedState {r : Record} (h : r.Sound) (staleLimit : Nat) :
    ({ r with state := r.agedState staleLimit } : Record).Sound := by
  obtain ⟨pending, held, profile, count⟩ := id h
  simp only [Record.agedState]
  split
  next hs =>
    refine h.withState ?_ (fun _ => held (.inl hs)) fun _ => count (.inl hs)
    (repeat' split) <;> simp
  next hs =>
    refine h.withState ?_ (fun _ => held (.inr (.inl hs))) fun _ => count (.inr hs)
    split <;> simp
  next hs =>
    refine h.withState ?_ (fun _ => held (.inr (.inr (.inl hs)))) ?_ <;> split <;> simp
  next hs =>
    refine h.withState ?_ (fun _ => held (.inr (.inr (.inr hs)))) ?_ <;> (repeat' split) <;> simp
    all_goals omega
  next => exact h

theorem Record.Sound.expired {r : Record} (h : r.Sound) (staleLimit : Nat) : (r.expired staleLimit).Sound := by
  have aged : r.aged.Sound := h
  simp only [Record.expired, Record.ageDriven]
  split
  next => exact aged
  next => exact aged.agedState staleLimit

theorem Record.Edit.sound {r r' : Record} (e : r.Edit r') (h : r.Sound) : r'.Sound := by
  cases e with
  | stamp | pin | interval | wait | countdownEnded => exact h
  | alert base => exact h.alerted base
  | restart staleLimit => exact (h.restarted staleLimit).withStanding _
  | handOver staleLimit pin => exact h.handedOver staleLimit pin
  | expire staleLimit => exact h.expired staleLimit

theorem Record.Settle.sound {r r' : Record} (e : r.Settle r') (h : r.Sound) : r'.Sound := by
  cases e with
  | load base v => simp [Record.Sound, Record.loaded]
  | fix pin =>
    obtain ⟨pending, held, profile, -⟩ := h
    cases hs : r.state <;> simp_all [Record.Sound, RecState.madeFixed]

theorem Record.Finish.sound {r r' : Record} (e : r.Finish r') (h : r.Sound) : r'.Sound := by
  cases e with
  | commit p v profile => simp [Record.Sound, Record.committed]
  | fault =>
    obtain ⟨-, -, profile, -⟩ := h
    simpa [Record.Sound] using profile
  | fail st =>
    obtain ⟨pending, held, profile, -⟩ := h
    cases hs : r.state <;> simp_all [Record.Sound, Record.failed, RecState.afterFailure]
  | resume c => exact h

theorem newRecord_sound (key : Key) (policy : Policy) (pin : Bool) (values : Option Values) (base stamp : Nat) :
    (newRecord key policy pin values base stamp).Sound := by
  cases values <;> simp [Record.Sound, newRecord]

/-! ## Changes of the table -/

/-- The table's form speaks of slots and keys alone, in their order. -/
theorem Table.wf_map {t : Table} {f : Nat × Record → Nat × Record} (slot : ∀ e ∈ t, (f e).1 = e.1)
    (key : ∀ e ∈ t, (f e).2.key = e.2.key)
    (h : t.Pairwise (fun a b => a.1 < b.1) ∧ (∀ e ∈ t, e.1 < 512) ∧ t.Pairwise (fun a b => a.2.key ≠ b.2.key)) :
    (t.map f).Pairwise (fun a b => a.1 < b.1) ∧ (∀ e ∈ t.map f, e.1 < 512)
      ∧ (t.map f).Pairwise (fun a b => a.2.key ≠ b.2.key) := by
  obtain ⟨order, low, keys⟩ := h
  refine ⟨List.pairwise_map.2 ?_, fun e he => ?_, List.pairwise_map.2 ?_⟩
  · exact order.imp_of_mem fun ha hb hab => by rwa [slot _ ha, slot _ hb]
  · obtain ⟨x, hx, rfl⟩ := List.mem_map.1 he
    rw [slot x hx]
    exact low x hx
  · exact keys.imp_of_mem fun ha hb hab => by rwa [key _ ha, key _ hb]

/-- A property of records that no claim takes from them. -/
structure Record.Lasting (Q : Record → Prop) : Prop where
  edit {r r' : Record} : r.Edit r' → Q r → Q r'
  settle {r r' : Record} : r.Settle r' → Q r → Q r'
  finish {r r' : Record} : r.Finish r' → Q r → Q r'
  standing {r : Record} (st : Standing) : Q r → Q { r with standing := st }
  fresh (key : Key) (policy : Policy) (pin : Bool) (values : Option Values) (base stamp : Nat) :
    Q (newRecord key policy pin values base stamp)

/-- The table is in its form and every record has the property. -/
abbrev State.AllRecords (Q : Record → Prop) (s : State) : Prop := s.TableOk ∧ ∀ e ∈ s.table, Q e.2

theorem State.TableOk.unique {s : State} (ok : s.TableOk) {slot : Nat} {r x : Record} (hr : (slot, r) ∈ s.table)
    (hx : (slot, x) ∈ s.table) : x = r :=
  Option.some.inj ((ok.get hx).symm.trans (ok.get hr))

namespace State.AllRecords

variable {Q : Record → Prop} {s t : State} (h : s.AllRecords Q)
include h

theorem of_table (ht : t.table = s.table) : t.AllRecords Q := by
  simpa only [State.AllRecords, State.TableOk, ht] using h

/-- A change of the records, each to one with the same key that has the property. -/
theorem map {f : Nat × Record → Nat × Record} (ht : t.table = s.table.map f) (slot : ∀ e ∈ s.table, (f e).1 = e.1)
    (key : ∀ e ∈ s.table, (f e).2.key = e.2.key) (keeps : ∀ e ∈ s.table, Q e.2 → Q (f e).2) : t.AllRecords Q := by
  obtain ⟨ok, all⟩ := h
  refine ⟨?_, ?_⟩
  · rw [State.TableOk, ht]
    exact Table.wf_map slot key ok
  · rw [ht]
    intro e he
    obtain ⟨x, hx, rfl⟩ := List.mem_map.1 he
    exact keeps x hx (all x hx)

theorem modify {slot : Nat} {f : Record → Record} (ht : t.table = Table.modify s.table slot f)
    (key : ∀ r, (slot, r) ∈ s.table → (f r).key = r.key) (keeps : ∀ r, (slot, r) ∈ s.table → Q r → Q (f r)) : t.AllRecords Q := by
  refine h.map ht (fun e _ => ?_) (fun e he => ?_) fun e he ok => ?_
  · split <;> rfl
  · split
    next hs =>
      subst hs
      exact key e.2 he
    next => rfl
  · split
    next hs =>
      subst hs
      exact keeps e.2 he ok
    next => exact ok

theorem erase {slot : Nat} (ht : t.table = Table.erase s.table slot) : t.AllRecords Q := by
  refine ⟨?_, fun e he => h.2 e (List.mem_of_mem_filter (ht ▸ he))⟩
  rw [State.TableOk, ht]
  exact Table.erase_wf slot h.1

variable (q : Record.Lasting Q)
include q

theorem setStanding (slot : Nat) (st : Standing) : (s.setStanding slot st).AllRecords Q :=
  h.modify (f := fun r => { r with standing := st }) rfl (fun _ _ => rfl) fun _ _ => q.standing st

theorem placeEntry (e : QEntry) : (s.placeEntry e).AllRecords Q :=
  setStanding (s := s.withQueue _) h q e.slot (.queued e.cause)

theorem displace : s.displace.AllRecords Q := by
  simp only [State.displace]
  split
  · exact setStanding (s := s.withQueue _) h q _ _
  · exact h

theorem offer (slot : Nat) (key : Key) (c : Cause) : (s.offer slot key c).1.AllRecords Q := by
  simp only [State.offer, State.join]
  (repeat' split)
  · exact h
  · exact h.placeEntry q _
  · exact (h.displace q).placeEntry q _
  · exact h

theorem waitAll (entries : List QEntry) : (s.waitAll entries).AllRecords Q := by
  induction entries generalizing s with
  | nil => exact h
  | cons e rest ih => exact ih (h.setStanding q e.slot _)

theorem offerDispatch (e : EngineId) : (s.offerDispatch e).AllRecords Q := by
  simp only [State.offerDispatch]
  (repeat' split)
  · exact h
  next x _ =>
    refine of_table (setStanding (s := s.withQueue (s.queue.remove x.slot)) h q x.slot (.sweeping e)) ?_
    simp [State.dispatchEntry]
  · exact h

end State.AllRecords

/-- Every claim keeps the table's form, and a lasting property of the records. -/
theorem allRecords_kept {Q : Record → Prop} (q : Record.Lasting Q) : Kept (State.AllRecords Q) where
  tableOk h := h.1
  rest same h := h.of_table same.1
  clear empty _ _ _ := by simp [State.AllRecords, State.TableOk, empty]
  progress _ _ _ h := h.of_table (by simp)
  edit hr e h :=
    h.modify rfl (fun x hx => h.1.unique hr hx ▸ e.key) fun x hx => h.1.unique hr hx ▸ q.edit e
  editAll e h := h.map rfl (fun _ _ => rfl) (fun x _ => (e x.2).key) fun x _ => q.edit (e x.2)
  settle o hr e h :=
    h.modify (by simp) (fun x hx => h.1.unique hr hx ▸ e.key) fun x hx => h.1.unique hr hx ▸ q.settle e
  retire {s slot r} o _ h := h.erase (slot := slot) (by simp [State.removeRecord])
  evict {s slot r} _ _ h := h.erase (slot := slot) (by simp [State.removeRecord])
  place policy pin values base stamp free lacks h :=
    ⟨Table.put_wf free.1 lacks h.1, fun e he =>
      (Table.mem_put he).elim (fun new => new ▸ q.fresh _ policy pin values base stamp) (h.2 e)⟩
  offer _ _ h := h.offer q _ _ _
  promote _ _ h := State.AllRecords.setStanding (s := State.withQueue _ _) h q _ _
  dropLinkEntries {s} l h := State.AllRecords.waitAll (s := s.withQueue (s.queue.removeLink l)) h q _
  dispatch e h := h.offerDispatch q e
  finish _ e h := h.modify (by simp) (fun x hx => (e x hx).key) fun x hx => q.finish (e x hx)
  linkFailed _ h := ((h.of_table (by simp)).setStanding q _ _).offer q _ _ _

/-- Every claim keeps the table's form. -/
theorem tableOk_kept : Kept State.TableOk := by
  have same : State.TableOk = State.AllRecords fun _ => True := by
    funext s
    simp [State.AllRecords]
  rw [same]
  exact allRecords_kept ⟨fun _ h => h, fun _ h => h, fun _ h => h, fun _ h => h, fun _ _ _ _ _ _ => trivial⟩

theorem Record.sound_lasting : Record.Lasting Record.Sound where
  edit := Record.Edit.sound
  settle := Record.Settle.sound
  finish := Record.Finish.sound
  standing st h := h.withStanding st
  fresh := newRecord_sound

/-- Settles O6: no claim of which a command is made takes a record's soundness. -/
theorem recordsStaySound : Obligations.RecordsStaySound :=
  fun _ _ h e => (allRecords_kept Record.sound_lasting).step h e

end Sys2Proof.Machine
end

section
/-! Queue, standings and engines tell one story (O9). The story is told slot by slot: the record in a slot says which entry the
queue holds for the slot and which engine sweeps it. A claim that changes one slot leaves the story of every other one alone. -/

namespace Sys2Proof.Machine

/-! ## What a record says of the queue and the engines -/

/-- The cause under which a standing is in the queue. -/
def Standing.queuedCause : Standing → Option Cause
  | .queued c => some c
  | _ => none

/-- The engine that a standing names. -/
def Standing.engine : Standing → Option EngineId
  | .sweeping e => some e
  | _ => none

/-- A standing that names neither an entry of the queue nor an engine. -/
def Standing.Free (st : Standing) : Prop := st.queuedCause = none ∧ st.engine = none

/-- The entries that a slot has in the queue. -/
def RefreshQueue.at (q : RefreshQueue) (n : Nat) : List QEntry := q.entries.filter fun e => e.slot == n

/-- The key under which an engine sweeps a slot. -/
def State.sweepAt (s : State) (n : Nat) (i : EngineId) : Option Key :=
  (s.sweep i).bind fun w => if w.slot = n then some w.key else none

/-- The entries that a record in a slot calls for. -/
def entriesFor (n : Nat) (r : Option Record) : List QEntry :=
  (r.bind fun r => r.standing.queuedCause.map fun c => { slot := n, key := r.key, cause := c }).toList

/-- The key under which a record calls for an engine's sweep. -/
def sweepFor (i : EngineId) (r : Option Record) : Option Key :=
  r.bind fun r => if r.standing.engine = some i then some r.key else none

/-- A record that seeks, waits for or has a sweep is AUTO and not FAULTED (R66); a countdown has not run out (R13). -/
def Record.Seeks (r : Record) : Prop :=
  (r.standing ≠ .idle → r.policy = .auto ∧ r.state ≠ .faulted) ∧ r.standing ≠ .retry 0

/-- The queue, the engines and the record of one slot agree. -/
structure State.SlotAgrees (s : State) (n : Nat) : Prop where
  entries : s.queue.at n = entriesFor n (Table.get s.table n)
  sweeps : ∀ i, s.sweepAt n i = sweepFor i (Table.get s.table n)
  seeks : ∀ r, Table.get s.table n = some r → r.Seeks

/-- The queue's own form (R65). -/
structure RefreshQueue.Ok (q : RefreshQueue) : Prop where
  room : q.length ≤ 64
  prio : ∀ e ∈ q.prio, e.cause.isPriority = true
  back : ∀ e ∈ q.back, e.cause.isPriority = false

/-- `State.RefreshOk`, told slot by slot. -/
structure State.Coherent (s : State) : Prop where
  tableOk : s.TableOk
  queueOk : s.queue.Ok
  slot : ∀ n, s.SlotAgrees n

theorem RefreshQueue.mem_at {q : RefreshQueue} {n : Nat} {e : QEntry} : e ∈ q.at n ↔ e ∈ q.entries ∧ e.slot = n := by
  simp [RefreshQueue.at]

theorem State.sweepAt_eq_some {s : State} {n : Nat} {i : EngineId} {k : Key} :
    s.sweepAt n i = some k ↔ ∃ w, s.sweep i = some w ∧ w.slot = n ∧ w.key = k := by
  simp [State.sweepAt, Option.bind_eq_some_iff]

theorem sweepFor_eq_some {i : EngineId} {r : Option Record} {k : Key} :
    sweepFor i r = some k ↔ ∃ x, r = some x ∧ x.standing = .sweeping i ∧ x.key = k := by
  simp only [sweepFor, Option.bind_eq_some_iff, Option.ite_none_right_eq_some, Option.some.injEq]
  refine exists_congr fun x => and_congr_right fun _ => and_congr_left fun _ => ?_
  cases x.standing <;> simp [Standing.engine]

theorem mem_entriesFor {n : Nat} {r : Option Record} {e : QEntry} :
    e ∈ entriesFor n r ↔ ∃ x, r = some x ∧ x.standing = .queued e.cause ∧ e.slot = n ∧ e.key = x.key := by
  have queued (st : Standing) (c : Cause) : st.queuedCause = some c ↔ st = .queued c := by
    cases st <;> simp [Standing.queuedCause]
  obtain ⟨m, k, c⟩ := e
  simp only [entriesFor, Option.mem_toList, Option.bind_eq_some_iff, Option.map_eq_some_iff, queued, QEntry.mk.injEq]
  constructor
  · rintro ⟨x, rfl, d, hd, rfl, rfl, rfl⟩
    exact ⟨x, rfl, hd, rfl, rfl⟩
  · rintro ⟨x, rfl, hd, rfl, rfl⟩
    exact ⟨x, rfl, c, hd, rfl, rfl, rfl⟩

/-- The entries of a queue name distinct slots exactly where no slot has two. -/
theorem RefreshQueue.pairwise_iff (q : RefreshQueue) :
    q.entries.Pairwise (fun a b => a.slot ≠ b.slot) ↔ ∀ n, (q.at n).length ≤ 1 := by
  have nodup : q.entries.Pairwise (fun a b => a.slot ≠ b.slot) ↔ (q.entries.map QEntry.slot).Nodup := List.pairwise_map.symm
  rw [nodup, List.nodup_iff_count_le_one]
  refine forall_congr' fun n => ?_
  rw [List.count, List.countP_map, List.countP_eq_length_filter]
  rfl

theorem entriesFor_length (n : Nat) (r : Option Record) : (entriesFor n r).length ≤ 1 := by
  rw [entriesFor]
  exact Option.length_toList_le

/-- A list of at most one entry is the list of any entry in it. -/
theorem eq_singleton_of_mem {l : List QEntry} {e : QEntry} (one : l.length ≤ 1) (he : e ∈ l) : l = [e] := by
  match l with
  | [] => cases he
  | [x] => simp_all
  | _ :: _ :: _ => simp at one

/-- Lists of at most one entry with the same entries are equal. -/
theorem eq_of_mem_iff {l l' : List QEntry} (one : l.length ≤ 1) (one' : l'.length ≤ 1) (same : ∀ e, e ∈ l ↔ e ∈ l') : l = l' := by
  match l with
  | [] => exact (List.eq_nil_iff_forall_not_mem.2 fun e he => by simpa using (same e).2 he).symm
  | [x] => exact (eq_singleton_of_mem one' ((same x).1 (by simp))).symm
  | _ :: _ :: _ => simp at one

theorem State.refreshOk_iff_coherent {s : State} : s.RefreshOk ↔ s.Coherent := by
  constructor
  · rintro ⟨ok, room, prio, back, once, entry, queued, sweep, sweeping, seeker, countdown⟩
    rw [RefreshQueue.pairwise_iff] at once
    refine ⟨ok, ⟨room, prio, back⟩, fun n => ⟨?_, fun i => ?_, fun r hr => ?_⟩⟩
    · have called {e : QEntry} (he : e ∈ s.queue.at n) : e ∈ entriesFor n (Table.get s.table n) := by
        obtain ⟨mem, rfl⟩ := RefreshQueue.mem_at.1 he
        obtain ⟨x, hx, hn, hk, hs⟩ := entry e mem
        exact mem_entriesFor.2 ⟨x.2, ok.get (hn ▸ hx), hs, rfl, hk.symm⟩
      refine eq_of_mem_iff (once n) (entriesFor_length _ _) fun e => ⟨called, fun he => ?_⟩
      obtain ⟨r, found, hs, rfl, -⟩ := mem_entriesFor.1 he
      obtain ⟨x, hx, hn⟩ := queued _ (Table.mem_of_get found) e.cause (by cases e.cause <;> simp) hs
      have hx := RefreshQueue.mem_at.2 ⟨hx, hn⟩
      have same := eq_singleton_of_mem (entriesFor_length _ _) (called hx)
      rw [same, List.mem_singleton] at he
      exact he ▸ hx
    · refine Option.ext fun k => ?_
      rw [State.sweepAt_eq_some, sweepFor_eq_some]
      have either : i ∈ [EngineId.se0, .se1] := by cases i <;> simp
      constructor
      · rintro ⟨w, hw, rfl, rfl⟩
        obtain ⟨x, hx, hn, hk, hs⟩ := sweep i either w hw
        exact ⟨x.2, ok.get (hn ▸ hx), hs, hk⟩
      · rintro ⟨r, found, hs, rfl⟩
        obtain ⟨w, hw, hn⟩ := sweeping _ (Table.mem_of_get found) i either hs
        obtain ⟨x, hx, hn', hk, -⟩ := sweep i either w hw
        have hx : (n, x.2) ∈ s.table := by rwa [show n = x.1 from (hn'.trans hn).symm]
        have same := ok.unique (Table.mem_of_get found) hx
        exact ⟨w, hw, hn, by rw [← hk, same]⟩
    · exact ⟨seeker _ (Table.mem_of_get hr), countdown _ (Table.mem_of_get hr)⟩
  · rintro ⟨ok, ⟨room, prio, back⟩, slot⟩
    refine ⟨ok, room, prio, back, (RefreshQueue.pairwise_iff _).2 fun n => ?_, fun q hq => ?_, fun e he c _ hc => ?_,
      fun i _ w hw => ?_, fun e he i _ hi => ?_, fun e he => ?_, fun e he => ?_⟩
    · rw [(slot n).entries]
      exact entriesFor_length _ _
    · have := RefreshQueue.mem_at.2 ⟨hq, rfl⟩
      rw [(slot q.slot).entries] at this
      obtain ⟨r, found, hs, -, hk⟩ := mem_entriesFor.1 this
      exact ⟨_, Table.mem_of_get found, rfl, hk.symm, hs⟩
    · have : (⟨e.1, e.2.key, c⟩ : QEntry) ∈ _ := mem_entriesFor.2 ⟨e.2, ok.get he, hc, rfl, rfl⟩
      rw [← (slot e.1).entries] at this
      exact ⟨_, RefreshQueue.mem_at.1 this⟩
    · have := State.sweepAt_eq_some.2 ⟨w, hw, rfl, rfl⟩
      rw [(slot w.slot).sweeps] at this
      obtain ⟨r, found, hs, hk⟩ := sweepFor_eq_some.1 this
      exact ⟨_, Table.mem_of_get found, rfl, hk, hs⟩
    · have := sweepFor_eq_some.2 ⟨e.2, ok.get he, hi, rfl⟩
      rw [← (slot e.1).sweeps] at this
      obtain ⟨w, hw, hs, -⟩ := State.sweepAt_eq_some.1 this
      exact ⟨w, hw, hs⟩
    · exact ((slot e.1).seeks _ (ok.get he)).1
    · exact ((slot e.1).seeks _ (ok.get he)).2

/-! ## Changes of one slot -/

/-- Two states tell the same of every slot but one. -/
def State.SameElsewhere (slot : Nat) (s t : State) : Prop :=
  ∀ n, n ≠ slot → Table.get t.table n = Table.get s.table n ∧ t.queue.at n = s.queue.at n ∧ ∀ i, t.sweepAt n i = s.sweepAt n i

theorem State.SameElsewhere.trans {slot : Nat} {s t u : State} (h : s.SameElsewhere slot t) (h' : t.SameElsewhere slot u) :
    s.SameElsewhere slot u := fun n hn =>
  have ⟨record, entries, sweeps⟩ := h n hn
  have ⟨record', entries', sweeps'⟩ := h' n hn
  ⟨record'.trans record, entries'.trans entries, fun i => (sweeps' i).trans (sweeps i)⟩

theorem State.Coherent.update {slot : Nat} {s t : State} (h : s.Coherent) (other : s.SameElsewhere slot t) (tableOk : t.TableOk)
    (queueOk : t.queue.Ok) (self : t.SlotAgrees slot) : t.Coherent := by
  refine ⟨tableOk, queueOk, fun n => ?_⟩
  by_cases hn : n = slot
  · exact hn ▸ self
  · obtain ⟨record, entries, sweeps⟩ := other n hn
    obtain ⟨entries', sweeps', seeks⟩ := h.slot n
    exact ⟨by rw [entries, entries', record], fun i => by rw [sweeps, sweeps', record], record ▸ seeks⟩

/-- A state with the same table, queue and engines tells the same. -/
theorem State.sweep_of_same {s t : State} (se0 : t.se0 = s.se0) (se1 : t.se1 = s.se1) : t.sweep = s.sweep := by
  funext i
  cases i
  · exact se0
  · exact se1

theorem State.sweepAt_congr {s t : State} (same : t.sweep = s.sweep) : t.sweepAt = s.sweepAt := by
  funext n i
  rw [State.sweepAt, same, State.sweepAt]

theorem State.Coherent.of_same {s t : State} (h : s.Coherent) (table : t.table = s.table) (queue : t.queue = s.queue)
    (sweeps : t.sweepAt = s.sweepAt) : t.Coherent := by
  refine ⟨?_, queue ▸ h.queueOk, fun n => ?_⟩
  · rw [State.TableOk, table]
    exact h.tableOk
  · obtain ⟨entries', sweeps', seeks⟩ := h.slot n
    exact ⟨by rw [queue, entries', table], fun i => by rw [sweeps, sweeps', table], table ▸ seeks⟩

/-! ### The table -/

theorem State.modRecord_sameElsewhere (s : State) (slot : Nat) (f : Record → Record) :
    s.SameElsewhere slot (s.modRecord slot f) := by
  intro n hn
  refine ⟨?_, by simp, fun i => by simp [State.sweepAt]⟩
  rw [State.modRecord_table, Table.get_modify, if_neg hn]

theorem State.removeRecord_sameElsewhere (s : State) (slot : Nat) (r : Record) :
    s.SameElsewhere slot (s.removeRecord slot r) := by
  intro n hn
  refine ⟨?_, by simp, fun i => by simp [State.sweepAt]⟩
  simp [State.removeRecord, Table.get_erase, hn]

/-! ### The queue -/

theorem RefreshQueue.at_eq (q : RefreshQueue) (n : Nat) :
    q.at n = (q.prio.filter fun e => e.slot == n) ++ q.back.filter fun e => e.slot == n := by
  simp [RefreshQueue.at, RefreshQueue.entries]

theorem RefreshQueue.at_remove (q : RefreshQueue) (slot n : Nat) : (q.remove slot).at n = if n = slot then [] else q.at n := by
  simp only [RefreshQueue.at_eq, RefreshQueue.remove, List.filter_filter]
  split
  next hn => subst hn; simp
  next hn =>
    have keep (e : QEntry) : (e.slot == n && e.slot != slot) = (e.slot == n) := by
      by_cases he : e.slot = n <;> simp [he, hn]
    simp [keep]

theorem RefreshQueue.length_remove_lt {q : RefreshQueue} {slot : Nat} {e : QEntry} (he : e ∈ q.at slot) :
    (q.remove slot).length < q.length := by
  obtain ⟨he, hs⟩ := RefreshQueue.mem_at.1 he
  have rest : (q.remove slot).length = (q.entries.filter fun e => e.slot != slot).length := by
    simp [RefreshQueue.length, RefreshQueue.remove, RefreshQueue.entries]
  have all : q.length = q.entries.length := by simp [RefreshQueue.length, RefreshQueue.entries]
  rw [rest, all]
  exact List.length_filter_lt_length_iff_exists.2 ⟨e, he, by simp [hs]⟩

theorem RefreshQueue.Ok.filter {q : RefreshQueue} (h : q.Ok) (p : QEntry → Bool) :
    RefreshQueue.Ok { prio := q.prio.filter p, back := q.back.filter p } := by
  refine ⟨?_, fun e he => h.prio e (List.mem_of_mem_filter he), fun e he => h.back e (List.mem_of_mem_filter he)⟩
  have room : q.prio.length + q.back.length ≤ 64 := h.room
  have := List.length_filter_le p q.prio
  have := List.length_filter_le p q.back
  show (q.prio.filter p).length + (q.back.filter p).length ≤ 64
  omega

theorem RefreshQueue.Ok.remove {q : RefreshQueue} (h : q.Ok) (slot : Nat) : (q.remove slot).Ok := h.filter _

theorem RefreshQueue.Ok.removeLink {q : RefreshQueue} (h : q.Ok) (l : LinkId) : (q.removeLink l).Ok := h.filter _

/-- An entry at the tail of its cause's section. -/
def RefreshQueue.push (q : RefreshQueue) (e : QEntry) : RefreshQueue :=
  if e.cause.isPriority then { q with prio := q.prio ++ [e] } else { q with back := q.back ++ [e] }

theorem RefreshQueue.at_push (q : RefreshQueue) (e : QEntry) {n : Nat} (hn : n ≠ e.slot) : (q.push e).at n = q.at n := by
  simp only [RefreshQueue.at_eq, RefreshQueue.push]
  split <;> simp [hn.symm]

theorem RefreshQueue.at_push_self {q : RefreshQueue} {e : QEntry} (none' : q.at e.slot = []) : (q.push e).at e.slot = [e] := by
  rw [RefreshQueue.at_eq, List.append_eq_nil_iff] at none'
  obtain ⟨prio, back⟩ := none'
  simp only [RefreshQueue.at_eq, RefreshQueue.push]
  split <;> simp [prio, back]

theorem RefreshQueue.Ok.push {q : RefreshQueue} (h : q.Ok) (e : QEntry) (room : q.length < 64) : (q.push e).Ok := by
  obtain ⟨-, prio, back⟩ := h
  simp only [RefreshQueue.length] at room
  simp only [RefreshQueue.push]
  split
  next he =>
    refine ⟨by simp [RefreshQueue.length]; omega, fun x hx => ?_, back⟩
    rcases List.mem_append.1 hx with hx | hx
    · exact prio x hx
    · rwa [List.mem_singleton.1 hx]
  next he =>
    refine ⟨by simp [RefreshQueue.length]; omega, prio, fun x hx => ?_⟩
    rcases List.mem_append.1 hx with hx | hx
    · exact back x hx
    · rw [List.mem_singleton.1 hx]
      simpa using he

theorem State.withQueue_sameElsewhere (s : State) (slot : Nat) {q : RefreshQueue} (same : ∀ n, n ≠ slot → q.at n = s.queue.at n) :
    s.SameElsewhere slot (s.withQueue q) :=
  fun n hn => ⟨rfl, same n hn, fun i => by simp [State.sweepAt]⟩

/-! ### The engines -/

theorem State.sweepAt_withSweep (s : State) (e i : EngineId) (v : Option Sweep) (n : Nat) :
    (s.withSweep e v).sweepAt n i =
      if i = e then v.bind fun w => if w.slot = n then some w.key else none else s.sweepAt n i := by
  simp only [State.sweepAt, State.withSweep_sweep_eq]
  split <;> rfl

theorem State.withSweep_sameElsewhere {s : State} {slot : Nat} {e : EngineId} {v : Option Sweep}
    (old : ∀ w ∈ s.sweep e, w.slot = slot) (new : ∀ w ∈ v, w.slot = slot) : s.SameElsewhere slot (s.withSweep e v) := by
  have away (v : Option Sweep) (hv : ∀ w ∈ v, w.slot = slot) {n : Nat} (hn : n ≠ slot) :
      (v.bind fun w => if w.slot = n then some w.key else none) = none := by
    cases v with
    | none => rfl
    | some w => simpa [hv w rfl] using hn.symm
  refine fun n hn => ⟨by simp, by simp, fun i => ?_⟩
  rw [State.sweepAt_withSweep]
  split
  next hi => rw [away v new hn, hi, State.sweepAt, away _ old hn]
  next => rfl

/-! ## Slots out of the refresh machinery -/

/-- The queue holds no entry of the slot, and no engine sweeps it. -/
structure State.Vacant (s : State) (slot : Nat) : Prop where
  entries : s.queue.at slot = []
  sweeps : ∀ i, s.sweepAt slot i = none

theorem entriesFor_of_free {n : Nat} {r : Record} (free : r.standing.Free) : entriesFor n (some r) = [] := by
  simp [entriesFor, free.1]

theorem sweepFor_of_free {i : EngineId} {r : Record} (free : r.standing.Free) : sweepFor i (some r) = none := by
  simp [sweepFor, free.2]

theorem State.Vacant.slotAgrees {s : State} {slot : Nat} (v : s.Vacant slot)
    (free : ∀ r, Table.get s.table slot = some r → r.standing.Free ∧ r.Seeks) : s.SlotAgrees slot := by
  cases found : Table.get s.table slot with
  | none => exact ⟨by rw [v.entries, found]; rfl, fun i => by rw [v.sweeps, found]; rfl, fun r hr => by simp [found] at hr⟩
  | some r =>
    obtain ⟨free, seeks⟩ := free r found
    refine ⟨?_, fun i => ?_, fun x hx => ?_⟩
    · rw [v.entries, found, entriesFor_of_free free]
    · rw [v.sweeps, found, sweepFor_of_free free]
    · cases found.symm.trans hx
      exact seeks

theorem State.SlotAgrees.vacant {s : State} {slot : Nat} (h : s.SlotAgrees slot)
    (free : ∀ r, Table.get s.table slot = some r → r.standing.Free) : s.Vacant slot := by
  obtain ⟨entries, sweeps, -⟩ := h
  cases found : Table.get s.table slot with
  | none => exact ⟨by rw [entries, found]; rfl, fun i => by rw [sweeps, found]; rfl⟩
  | some r =>
    exact ⟨by rw [entries, found, entriesFor_of_free (free r found)], fun i => by rw [sweeps, found, sweepFor_of_free (free r found)]⟩

/-- The record of a slot leaves the queue and its engine; the table and every other slot stay as they were. -/
structure State.Vacates (slot : Nat) (s t : State) : Prop where
  table : t.table = s.table
  queueOk : t.queue.Ok
  other : s.SameElsewhere slot t
  vacant : t.Vacant slot

theorem State.Vacates.of_same {slot : Nat} {s t u : State} (v : s.Vacates slot t) (table : u.table = t.table)
    (queue : u.queue = t.queue) (sweeps : u.sweep = t.sweep) : s.Vacates slot u := by
  have sweeps := State.sweepAt_congr sweeps
  refine ⟨table.trans v.table, queue ▸ v.queueOk, fun n hn => ?_, ⟨queue ▸ v.vacant.entries, sweeps ▸ v.vacant.sweeps⟩⟩
  rw [table, queue, sweeps]
  exact v.other n hn

namespace State.Coherent

variable {s : State} (h : s.Coherent)
include h

theorem seeks_of_get {n : Nat} {r : Record} (found : Table.get s.table n = some r) : r.Seeks := (h.slot n).seeks r found

/-- The record of a sweep. -/
theorem swept {e : EngineId} {w : Sweep} (run : s.sweep e = some w) :
    ∃ r, Table.get s.table w.slot = some r ∧ r.standing = .sweeping e ∧ r.key = w.key := by
  have := State.sweepAt_eq_some.2 ⟨w, run, rfl, rfl⟩
  rwa [(h.slot w.slot).sweeps, sweepFor_eq_some] at this

/-- The record of an entry. -/
theorem queued {q : QEntry} (hq : q ∈ s.queue.entries) :
    ∃ r, Table.get s.table q.slot = some r ∧ r.standing = .queued q.cause ∧ q.key = r.key := by
  have := RefreshQueue.mem_at.2 ⟨hq, rfl⟩
  rw [(h.slot q.slot).entries, mem_entriesFor] at this
  obtain ⟨r, found, standing, -, key⟩ := this
  exact ⟨r, found, standing, key⟩

theorem sweepAt_none {n : Nat} {r : Record} (found : Table.get s.table n = some r) {i : EngineId} (away : r.standing.engine ≠ some i) :
    s.sweepAt n i = none := by
  simp [(h.slot n).sweeps, found, sweepFor, away]

theorem vacates_self {slot : Nat} (free : ∀ r, Table.get s.table slot = some r → r.standing.Free) : s.Vacates slot s :=
  ⟨rfl, h.queueOk, fun _ _ => ⟨rfl, rfl, fun _ => rfl⟩, (h.slot slot).vacant free⟩

theorem vacates_remove {slot : Nat} {r : Record} (found : Table.get s.table slot = some r) (away : r.standing.engine = none) :
    s.Vacates slot (s.withQueue (s.queue.remove slot)) := by
  refine ⟨rfl, h.queueOk.remove slot, s.withQueue_sameElsewhere slot fun n hn => ?_, ⟨?_, fun i => ?_⟩⟩
  · rw [RefreshQueue.at_remove, if_neg hn]
  · rw [State.withQueue_queue, RefreshQueue.at_remove, if_pos rfl]
  · exact h.sweepAt_none found (by simp [away])

theorem vacates_clear {e : EngineId} {w : Sweep} (run : s.sweep e = some w) : s.Vacates w.slot (s.clearEngine e w) := by
  obtain ⟨r, found, standing, -⟩ := h.swept run
  have vacates : s.Vacates w.slot (s.withSweep e none) := by
    refine ⟨by simp, by simpa using h.queueOk, State.withSweep_sameElsewhere ?_ (by simp), ⟨?_, fun i => ?_⟩⟩
    · simp [run]
    · rw [State.withSweep_queue, (h.slot w.slot).entries, found]
      simp [entriesFor, Standing.queuedCause, standing]
    · rw [State.sweepAt_withSweep]
      split
      · rfl
      next hi => exact h.sweepAt_none found (by simp [standing, Standing.engine, Ne.symm hi])
  exact vacates.of_same (by simp) (by simp) (by funext i; simp [State.withSweep_sweep_eq])

theorem vacates_withdraw {slot : Nat} {r : Record} (found : Table.get s.table slot = some r) (o : SweepOutcome) :
    s.Vacates slot (s.withdraw slot r o) := by
  simp only [State.withdraw]
  split
  next c standing => exact h.vacates_remove found (by simp [standing, Standing.engine])
  next e standing =>
    have := sweepFor_eq_some.2 ⟨r, found, standing, rfl⟩
    rw [← (h.slot slot).sweeps, State.sweepAt_eq_some] at this
    obtain ⟨w, run, rfl, -⟩ := this
    simp only [run]
    refine (h.vacates_clear run).of_same (by simp) (by simp) ?_
    funext i
    simp [State.endStopped]
  next queued sweeping =>
    refine h.vacates_self fun x hx => ?_
    cases found.symm.trans hx
    cases hs : r.standing <;> simp_all [Standing.Free, Standing.queuedCause, Standing.engine]

/-! ### What becomes of a slot out of the machinery -/

theorem modify {slot : Nat} {t : State} (v : s.Vacates slot t) {f : Record → Record} (tableOk : (t.modRecord slot f).TableOk)
    (free : ∀ r, Table.get s.table slot = some r → (f r).standing.Free ∧ (f r).Seeks) : (t.modRecord slot f).Coherent := by
  refine h.update (v.other.trans (t.modRecord_sameElsewhere slot f)) tableOk (by simpa using v.queueOk) ?_
  refine State.Vacant.slotAgrees ⟨by simpa using v.vacant.entries, fun i => ?_⟩ fun x hx => ?_
  · simpa [State.sweepAt] using v.vacant.sweeps i
  · rw [State.modRecord_table, Table.get_modify, if_pos rfl, v.table] at hx
    obtain ⟨r, found, rfl⟩ := Option.map_eq_some_iff.1 hx
    exact free r found

theorem remove {slot : Nat} {t : State} (v : s.Vacates slot t) (r : Record) (tableOk : (t.removeRecord slot r).TableOk) :
    (t.removeRecord slot r).Coherent := by
  refine h.update (v.other.trans (t.removeRecord_sameElsewhere slot r)) tableOk (by simpa using v.queueOk) ?_
  refine State.Vacant.slotAgrees ⟨by simpa using v.vacant.entries, fun i => ?_⟩ fun x hx => ?_
  · simpa [State.sweepAt] using v.vacant.sweeps i
  · simp [State.removeRecord, Table.get_erase] at hx

/-- A record out of the machinery takes QUEUED with its entry. -/
theorem enqueue {t : State} {e : QEntry} (v : s.Vacates e.slot t) (room : t.queue.length < 64) {r : Record}
    (found : Table.get s.table e.slot = some r) (key : e.key = r.key) (seeker : r.policy = .auto ∧ r.state ≠ .faulted) :
    (t.placeEntry e).Coherent := by
  have queue : (t.placeEntry e).queue = t.queue.push e := by simp [State.placeEntry, RefreshQueue.push]
  have sweeps (n : Nat) (i : EngineId) : (t.placeEntry e).sweepAt n i = t.sweepAt n i := by simp [State.sweepAt]
  have record (n : Nat) : Table.get (t.placeEntry e).table n =
      if n = e.slot then (Table.get s.table n).map (fun r => { r with standing := .queued e.cause }) else Table.get s.table n := by
    rw [← v.table]
    exact State.get_setStanding (t.withQueue _) e.slot n _
  refine h.update (slot := e.slot) (fun n hn => ?_) ?_ (queue ▸ v.queueOk.push e room) ⟨?_, fun i => ?_, fun x hx => ?_⟩
  · obtain ⟨-, entries', sweeps'⟩ := v.other n hn
    refine ⟨by rw [record, if_neg hn], ?_, fun i => (sweeps n i).trans (sweeps' i)⟩
    rw [queue, RefreshQueue.at_push _ _ hn, entries']
  · refine State.TableOk.setStanding (s := t.withQueue _) ?_ e.slot (.queued e.cause)
    rw [State.TableOk, State.withQueue_table, v.table]
    exact h.tableOk
  · rw [queue, RefreshQueue.at_push_self v.vacant.entries, record, if_pos rfl, found]
    simp [entriesFor, Standing.queuedCause, ← key]
  · rw [sweeps, v.vacant.sweeps, record, if_pos rfl, found]
    simp [sweepFor, Standing.engine]
  · rw [record, if_pos rfl, found] at hx
    cases hx
    exact ⟨fun _ => seeker, by simp⟩

/-! ### Joins -/

theorem free_of_waiting {slot : Nat} {r : Record} (found : Table.get s.table slot = some r) {c : Cause}
    (waiting : r.standing = .waiting c) : s.Vacates slot s := by
  refine h.vacates_self fun x hx => ?_
  cases found.symm.trans hx
  simp [waiting, Standing.Free, Standing.queuedCause, Standing.engine]

theorem placeWaiting {slot : Nat} {r : Record} (found : Table.get s.table slot = some r) {c : Cause}
    (waiting : r.standing = .waiting c) (room : s.queue.length < 64) :
    (s.placeEntry { slot := slot, key := r.key, cause := c }).Coherent :=
  h.enqueue (h.free_of_waiting found waiting) room found rfl ((h.seeks_of_get found).1 (by simp [waiting]))

/-- The newest back entry leaves the queue. -/
theorem vacates_newest {d : QEntry} (newest : s.queue.back.getLast? = some d) :
    s.Vacates d.slot (s.withQueue { s.queue with back := s.queue.back.dropLast }) := by
  have split : s.queue.back = s.queue.back.dropLast ++ [d] := (List.dropLast_append_getLast? d newest).symm
  have entries (n : Nat) : s.queue.at n =
      RefreshQueue.at { s.queue with back := s.queue.back.dropLast } n ++ [d].filter fun e => e.slot == n := by
    rw [RefreshQueue.at_eq, RefreshQueue.at_eq]
    conv_lhs => rw [split]
    rw [List.filter_append, List.append_assoc]
  obtain ⟨r, found, standing, -⟩ := h.queued (q := d) (List.mem_append.2 (.inr (split ▸ by simp)))
  refine ⟨rfl, ?_, s.withQueue_sameElsewhere _ fun n hn => ?_, ⟨?_, fun i => ?_⟩⟩
  · obtain ⟨room, prio, back⟩ := h.queueOk
    refine ⟨le_trans ?_ room, prio, fun e he => back e (List.mem_of_mem_dropLast he)⟩
    simp [RefreshQueue.length]
  · rw [entries n]
    simp [hn.symm]
  · have one := entriesFor_length d.slot (Table.get s.table d.slot)
    rw [← (h.slot d.slot).entries, entries d.slot] at one
    simpa using one
  · exact h.sweepAt_none found (by simp [standing, Standing.engine])

omit h in
theorem displace_eq {d : QEntry} (newest : s.queue.back.getLast? = some d) :
    s.displace = (s.withQueue { s.queue with back := s.queue.back.dropLast }).setStanding d.slot (.waiting d.cause) := by
  simp [State.displace, newest]

/-- The newest back entry gives its place up: the story holds, the queue has room, and a record that waits is untouched. -/
theorem displace (back : s.queue.back ≠ []) : s.displace.Coherent ∧ s.displace.queue.length < 64
    ∧ ∀ n r c, Table.get s.table n = some r → r.standing = .waiting c → Table.get s.displace.table n = some r := by
  obtain ⟨d, newest⟩ : ∃ d, s.queue.back.getLast? = some d := ⟨_, List.getLast?_eq_some_getLast back⟩
  have split : s.queue.back = s.queue.back.dropLast ++ [d] := (List.dropLast_append_getLast? d newest).symm
  obtain ⟨x, found, standing, -⟩ := h.queued (q := d) (List.mem_append.2 (.inr (split ▸ by simp)))
  rw [displace_eq newest]
  refine ⟨?_, ?_, fun n r c hr waiting => ?_⟩
  · refine h.modify (h.vacates_newest newest) (State.TableOk.setStanding (s := s.withQueue _) h.tableOk _ _) fun r hr => ?_
    cases found.symm.trans hr
    exact ⟨⟨rfl, rfl⟩, fun _ => (h.seeks_of_get found).1 (by simp [standing]), by simp⟩
  · have room : s.queue.prio.length + s.queue.back.length ≤ 64 := h.queueOk.room
    have := List.length_pos_iff.2 back
    simp [RefreshQueue.length]
    omega
  · rw [State.get_setStanding]
    split
    next hn =>
      rw [hn] at hr
      cases found.symm.trans hr
      simp [standing] at waiting
    next => exact hr

theorem offer {slot : Nat} {r : Record} (found : Table.get s.table slot = some r) {c : Cause} (waiting : r.standing = .waiting c) :
    (s.offer slot r.key c).1.Coherent := by
  simp only [State.offer, State.join]
  (repeat' split)
  · exact h
  next room => exact h.placeWaiting found waiting room
  next full =>
    have back : s.queue.back ≠ [] := by
      intro hb
      simp [hb] at full
    obtain ⟨coherent, room, untouched⟩ := h.displace back
    exact coherent.placeWaiting (untouched slot r c found waiting) waiting room
  · exact h

theorem promote {slot : Nat} {r : Record} (found : Table.get s.table slot = some r) {c : Cause} (queued : r.standing = .queued c) :
    (s.promote slot r.key).Coherent := by
  have room : (s.queue.remove slot).length < 64 := by
    refine lt_of_lt_of_le (RefreshQueue.length_remove_lt (e := { slot := slot, key := r.key, cause := c }) ?_) h.queueOk.room
    rw [(h.slot slot).entries]
    exact mem_entriesFor.2 ⟨r, found, queued, rfl, rfl⟩
  have placed := h.enqueue (e := { slot := slot, key := r.key, cause := .requested })
    (h.vacates_remove found (by simp [queued, Standing.engine])) room found rfl ((h.seeks_of_get found).1 (by simp [queued]))
  exact placed.of_same rfl rfl rfl

/-! ### Dispatch -/

theorem dispatchEntry {e : EngineId} {q : QEntry} (idle : s.sweep e = none) (hq : q ∈ s.queue.entries) :
    (s.dispatchEntry e q).Coherent := by
  obtain ⟨r, found, standing, key⟩ := h.queued hq
  have leaves := h.vacates_remove found (by simp [standing, Standing.engine])
  have sweeps (n : Nat) (i : EngineId) : (s.dispatchEntry e q).sweepAt n i =
      if i = e then if q.slot = n then some q.key else none else s.sweepAt n i := by
    simp only [State.dispatchEntry, State.sweepAt_withSweep]
    split
    · rfl
    · simp [State.sweepAt]
  have record (n : Nat) : Table.get (s.dispatchEntry e q).table n =
      if n = q.slot then (Table.get s.table n).map (fun r => { r with standing := .sweeping e }) else Table.get s.table n := by
    rw [State.dispatchEntry, State.withSweep_table, State.get_setStanding, State.withQueue_table]
  have queue : (s.dispatchEntry e q).queue = s.queue.remove q.slot := by simp [State.dispatchEntry]
  refine h.update (slot := q.slot) (fun n hn => ?_) ?_ (queue ▸ leaves.queueOk) ⟨?_, fun i => ?_, fun x hx => ?_⟩
  · refine ⟨by rw [record, if_neg hn], by rw [queue, RefreshQueue.at_remove, if_neg hn], fun i => ?_⟩
    rw [sweeps]
    split
    next hi => rw [if_neg (Ne.symm hn), hi, State.sweepAt, idle]; rfl
    next => rfl
  · have := State.TableOk.setStanding (s := s.withQueue (s.queue.remove q.slot)) h.tableOk q.slot (.sweeping e)
    simpa only [State.dispatchEntry, State.TableOk, State.withSweep_table] using this
  · rw [queue, RefreshQueue.at_remove, if_pos rfl, record, if_pos rfl, found]
    rfl
  · rw [sweeps, record, if_pos rfl, found, h.sweepAt_none found (by simp [standing, Standing.engine]), if_pos rfl, key]
    simp [sweepFor, Standing.engine, eq_comm]
  · rw [record, if_pos rfl, found] at hx
    cases hx
    exact ⟨fun _ => (h.seeks_of_get found).1 (by simp [standing]), by simp⟩

theorem offerDispatch (e : EngineId) : (s.offerDispatch e).Coherent := by
  simp only [State.offerDispatch]
  (repeat' split)
  · exact h
  next idle _ q chosen => exact h.dispatchEntry idle (List.mem_of_find?_eq_some chosen)
  · exact h

/-! ### Every entry of a link -/

omit h in
/-- A record takes WAITING with the cause of each of its entries in turn. -/
theorem get_waitAll (entries : List QEntry) (n : Nat) :
    Table.get (s.waitAll entries).table n =
      (entries.filter fun e => e.slot == n).foldl (fun r e => r.map fun r => { r with standing := .waiting e.cause })
        (Table.get s.table n) := by
  induction entries generalizing s with
  | nil => rfl
  | cons q rest ih =>
    rw [State.waitAll, ih, State.get_setStanding, List.filter_cons]
    by_cases hq : q.slot = n
    · simp [hq]
    · simp [hq, Ne.symm hq]

theorem dropLinkEntries (l : LinkId) : (s.dropLinkEntries l).Coherent := by
  have queue : (s.dropLinkEntries l).queue = s.queue.removeLink l := by simp [State.dropLinkEntries]
  have sweeps (n : Nat) (i : EngineId) : (s.dropLinkEntries l).sweepAt n i = s.sweepAt n i := by simp [State.sweepAt]
  have left (n : Nat) : (s.queue.removeLink l).at n = (s.queue.at n).filter fun e => e.key.link != l := by
    simp [RefreshQueue.at_eq, RefreshQueue.removeLink, List.filter_filter, Bool.and_comm]
  have gone (n : Nat) : ((s.queue.entries.filter fun e => e.key.link == l).filter fun e => e.slot == n) =
      (s.queue.at n).filter fun e => e.key.link == l := by
    simp [RefreshQueue.at, List.filter_filter, Bool.and_comm]
  have record (n : Nat) : Table.get (s.dropLinkEntries l).table n =
      ((s.queue.at n).filter fun e => e.key.link == l).foldl (fun r e => r.map fun r => { r with standing := .waiting e.cause })
        (Table.get s.table n) := by
    rw [← gone]
    exact get_waitAll (s := s.withQueue _) _ n
  refine ⟨tableOk_kept.dropLinkEntries l h.tableOk, queue ▸ h.queueOk.removeLink l, fun n => ?_⟩
  obtain ⟨entries', sweeps', seeks⟩ := h.slot n
  have one := entriesFor_length n (Table.get s.table n)
  rw [← entries'] at one
  cases hq : s.queue.at n with
  | nil =>
    have same : Table.get (s.dropLinkEntries l).table n = Table.get s.table n := by rw [record, hq]; rfl
    exact ⟨by rw [queue, left, same, ← entries', hq]; rfl, fun i => by rw [sweeps, same, sweeps'], same ▸ seeks⟩
  | cons e rest =>
    have he : e ∈ s.queue.at n := by rw [hq]; exact List.mem_cons_self
    have only := eq_singleton_of_mem one he
    obtain ⟨r, found, standing, hn, key⟩ := mem_entriesFor.1 (entries' ▸ he)
    by_cases hl : e.key.link = l
    · have waits : Table.get (s.dropLinkEntries l).table n = some { r with standing := .waiting e.cause } := by
        simp [record, only, hl, found]
      refine State.Vacant.slotAgrees ⟨by simp [queue, left, only, hl], fun i => ?_⟩ fun x hx => ?_
      · rw [sweeps]
        exact h.sweepAt_none found (by simp [standing, Standing.engine])
      · cases waits.symm.trans hx
        exact ⟨⟨rfl, rfl⟩, fun _ => (seeks r found).1 (by simp [standing]), by simp⟩
    · have same : Table.get (s.dropLinkEntries l).table n = Table.get s.table n := by simp [record, only, hl]
      refine ⟨?_, fun i => by rw [sweeps, same, sweeps'], same ▸ seeks⟩
      rw [queue, left, same, ← entries', only]
      simp [hl]

end State.Coherent

/-! ## The changes of one record -/

theorem Record.Settle.seeks {r r' : Record} (e : r.Settle r') : r'.standing.Free ∧ r'.Seeks := by
  cases e <;> exact ⟨⟨rfl, rfl⟩, fun h => absurd rfl h, by simp [Record.loaded]⟩

theorem Record.Finish.seeks {r r' : Record} (e : r.Finish r') (seeker : r.policy = .auto ∧ r.state ≠ .faulted) :
    r'.standing.Free ∧ r'.Seeks := by
  cases e with
  | commit | fault => exact ⟨⟨rfl, rfl⟩, fun h => absurd rfl h, by simp [Record.committed]⟩
  | fail st hst =>
    obtain rfl | ⟨n, hn, rfl⟩ := hst
    all_goals
      refine ⟨⟨rfl, rfl⟩, fun _ => ⟨seeker.1, ?_⟩, by simp_all [Record.failed]⟩
      cases hs : r.state <;> simp_all [Record.failed, RecState.afterFailure]
  | resume c => exact ⟨⟨rfl, rfl⟩, fun _ => seeker, by simp⟩

section
variable (st : Standing)

theorem Standing.countedDown_queuedCause : st.countedDown.queuedCause = st.queuedCause := by
  cases st with
  | retry n => simp only [Standing.countedDown]; split <;> rfl
  | _ => rfl

theorem Standing.countedDown_engine : st.countedDown.engine = st.engine := by
  cases st with
  | retry n => simp only [Standing.countedDown]; split <;> rfl
  | _ => rfl

theorem Standing.countedDown_idle : st.countedDown = .idle ↔ st = .idle := by
  cases st with
  | retry n => simp only [Standing.countedDown]; split <;> simp
  | _ => simp [Standing.countedDown]

theorem Standing.countedDown_live : st.countedDown ≠ .retry 0 := by
  cases st with
  | retry n =>
    simp only [Standing.countedDown]
    split
    · simp
    · simp; omega
  | _ => simp [Standing.countedDown]

theorem Standing.countdownEnded_queuedCause : st.countdownEnded.queuedCause = st.queuedCause := by
  cases st with
  | retry n => simp only [Standing.countdownEnded]; split <;> rfl
  | _ => rfl

theorem Standing.countdownEnded_engine : st.countdownEnded.engine = st.engine := by
  cases st with
  | retry n => simp only [Standing.countdownEnded]; split <;> rfl
  | _ => rfl

theorem Standing.countdownEnded_idle : st.countdownEnded = .idle ↔ st = .idle := by
  cases st with
  | retry n => simp only [Standing.countdownEnded]; split <;> simp
  | _ => simp [Standing.countdownEnded]

theorem Standing.countdownEnded_live : st.countdownEnded ≠ .retry 0 := by
  cases st with
  | retry n =>
    simp only [Standing.countdownEnded]
    split
    · simp
    · simp; omega
  | _ => simp [Standing.countdownEnded]

end

theorem Record.agedState_live {r : Record} (live : r.state ≠ .faulted) (staleLimit : Nat) : r.agedState staleLimit ≠ .faulted := by
  simp only [Record.agedState]
  (repeat' split) <;> simp_all

/-- The age-driven change gives a record that leaves VALID idle a place to seek, and takes none (R52). -/
theorem Record.Seeks.ageDriven {r : Record} (h : r.Seeks) (staleLimit : Nat) :
    (r.ageDriven staleLimit).standing.queuedCause = r.standing.queuedCause
      ∧ (r.ageDriven staleLimit).standing.engine = r.standing.engine
      ∧ ((r.ageDriven staleLimit).standing ≠ .idle →
        (r.ageDriven staleLimit).policy = .auto ∧ (r.ageDriven staleLimit).state ≠ .faulted) := by
  simp only [Record.ageDriven]
  split
  next => exact ⟨rfl, rfl, h.1⟩
  next auto =>
    dsimp only
    split
    next leaves =>
      obtain ⟨valid, -, idle⟩ := leaves
      exact ⟨by rw [idle]; rfl, by rw [idle]; rfl, fun _ => ⟨auto, Record.agedState_live (by simp [valid]) staleLimit⟩⟩
    next => exact ⟨rfl, rfl, fun hs => ⟨auto, Record.agedState_live (h.1 hs).2 staleLimit⟩⟩

theorem newRecord_seeks (key : Key) (policy : Policy) (pin : Bool) (values : Option Values) (base stamp : Nat) :
    (newRecord key policy pin values base stamp).standing.Free ∧ (newRecord key policy pin values base stamp).Seeks := by
  cases values <;> cases policy <;>
    simp [newRecord, Standing.Free, Standing.queuedCause, Standing.engine, Record.Seeks]

theorem Record.evictable_engine {r : Record} (h : r.evictable = true) : r.standing.engine = none := by
  cases hs : r.standing <;> simp_all [Record.evictable, Standing.isSweeping, Standing.engine]

/-- An expiry moves no entry and no sweep, and lets only AUTO records seek (R52 to R55). -/
theorem Record.Seeks.expired {r : Record} (h : r.Seeks) (staleLimit : Nat) :
    (r.expired staleLimit).standing.queuedCause = r.standing.queuedCause
      ∧ (r.expired staleLimit).standing.engine = r.standing.engine ∧ (r.expired staleLimit).Seeks := by
  obtain ⟨queued, engine, seeker⟩ := Record.Seeks.ageDriven (r := r.aged) h staleLimit
  exact ⟨(Standing.countedDown_queuedCause _).trans queued, (Standing.countedDown_engine _).trans engine,
    fun hs => seeker fun idle => hs ((Standing.countedDown_idle _).2 idle), Standing.countedDown_live _⟩

/-- A change in place moves no entry and no sweep. -/
theorem Record.Edit.seeks {r r' : Record} (e : r.Edit r') (h : r.Seeks) :
    r'.standing.queuedCause = r.standing.queuedCause ∧ r'.standing.engine = r.standing.engine ∧ r'.Seeks := by
  cases e with
  | stamp | pin | interval => exact ⟨rfl, rfl, h⟩
  | alert base => exact ⟨rfl, rfl, fun hs => ⟨(h.1 hs).1, Record.alerted_live base (h.1 hs).2⟩, h.2⟩
  | restart staleLimit auto faulted => 
    have idle : r.standing = .idle := by
      by_contra hs
      exact (h.1 hs).2 faulted
    refine ⟨by rw [idle]; rfl, by rw [idle]; rfl, fun _ => ⟨auto, ?_⟩, by simp⟩
    simp only [Record.restarted]
    (repeat' split) <;> simp
  | handOver staleLimit pin isFixed => 
    have idle : r.standing = .idle := by
      by_contra hs
      simp [(h.1 hs).1] at isFixed
    exact ⟨by rw [idle]; rfl, by rw [idle]; rfl, fun hs => absurd rfl hs, by simp [Record.handedOver]⟩
  | wait c auto live free => 
    refine ⟨?_, ?_, fun _ => ⟨auto, live⟩, by simp⟩
    all_goals obtain hs | ⟨d, hs⟩ | ⟨n, hs⟩ := free <;> rw [hs] <;> rfl
  | countdownEnded =>
    exact ⟨Standing.countdownEnded_queuedCause _, Standing.countdownEnded_engine _,
      fun hs => h.1 fun idle => hs ((Standing.countdownEnded_idle _).2 idle), Standing.countdownEnded_live _⟩
  | expire staleLimit => exact h.expired staleLimit

/-! ## Every claim -/

theorem entriesFor_congr {n : Nat} {r r' : Record} (key : r'.key = r.key)
    (queued : r'.standing.queuedCause = r.standing.queuedCause) : entriesFor n (some r') = entriesFor n (some r) := by
  simp [entriesFor, key, queued]

theorem sweepFor_congr {i : EngineId} {r r' : Record} (key : r'.key = r.key)
    (engine : r'.standing.engine = r.standing.engine) : sweepFor i (some r') = sweepFor i (some r) := by
  simp [sweepFor, key, engine]

theorem State.SlotAgrees.edit {s t : State} {n : Nat} (h : s.SlotAgrees n) (queue : t.queue = s.queue) (sweeps : t.sweepAt = s.sweepAt)
    {f : Record → Record} (record : Table.get t.table n = (Table.get s.table n).map f)
    (e : ∀ r, Table.get s.table n = some r → r.Edit (f r)) : t.SlotAgrees n := by
  obtain ⟨entries', sweeps', seeks'⟩ := h
  cases found : Table.get s.table n with
  | none =>
    have same : Table.get t.table n = Table.get s.table n := by rw [record, found]; rfl
    exact ⟨by rw [queue, entries', same], fun i => by rw [sweeps, sweeps', same], same ▸ seeks'⟩
  | some r =>
    obtain ⟨queued, engine, seeks⟩ := (e r found).seeks (seeks' r found)
    rw [found] at record
    refine ⟨?_, fun i => ?_, fun x hx => ?_⟩
    · rw [queue, entries', found, record]
      exact (entriesFor_congr (e r found).key queued).symm
    · rw [sweeps, sweeps', found, record]
      exact (sweepFor_congr (e r found).key engine).symm
    · cases record.symm.trans hx
      exact seeks

theorem State.Coherent.edit {s : State} (h : s.Coherent) {slot : Nat} {r : Record} {f : Record → Record} (hr : (slot, r) ∈ s.table)
    (e : r.Edit (f r)) : (s.modRecord slot f).Coherent := by
  have sweeps : (s.modRecord slot f).sweepAt = s.sweepAt := State.sweepAt_congr (by funext i; simp)
  refine h.update (s.modRecord_sameElsewhere slot f) (tableOk_kept.edit hr e h.tableOk) (by simpa using h.queueOk)
    ((h.slot slot).edit (by simp) sweeps (by rw [State.modRecord_table, Table.get_modify, if_pos rfl]) fun x hx => ?_)
  cases (h.tableOk.get hr).symm.trans hx
  exact e

theorem State.Coherent.editAll {s : State} (h : s.Coherent) {f : Record → Record} (e : ∀ r : Record, r.Edit (f r)) :
    (s.withTable (s.table.map fun e => (e.1, f e.2))).Coherent :=
  ⟨tableOk_kept.editAll e h.tableOk, h.queueOk, fun n =>
    (h.slot n).edit rfl (State.sweepAt_congr (by funext i; simp)) (Table.get_map s.table (fun _ => f) n) fun r _ => e r⟩

theorem State.Coherent.place {s : State} (h : s.Coherent) {slot : Nat} {key : Key} (policy : Policy) (pin : Bool)
    (values : Option Values) (base stamp : Nat) (free : s.LowestFree slot) (lacks : s.Lacks key) :
    (s.withTable (Table.put s.table slot (newRecord key policy pin values base stamp))).Coherent := by
  have vacant := (h.slot slot).vacant fun r hr => by simp [free.2.1] at hr
  refine h.update (slot := slot) (fun n hn => ⟨?_, rfl, fun i => by simp [State.sweepAt]⟩)
    (tableOk_kept.place policy pin values base stamp free lacks h.tableOk) h.queueOk
    (State.Vacant.slotAgrees ⟨vacant.entries, fun i => by simpa [State.sweepAt] using vacant.sweeps i⟩ fun r hr => ?_)
  · rw [State.withTable_table, Table.get_put, if_neg hn]
  · rw [State.withTable_table, Table.get_put, if_pos rfl] at hr
    cases hr
    exact newRecord_seeks key policy pin values base stamp

theorem State.Coherent.finish {s : State} (h : s.Coherent) {e : EngineId} {w : Sweep} {f : Record → Record} (run : s.sweep e = some w)
    (ends : ∀ r : Record, (w.slot, r) ∈ s.table → r.Finish (f r)) : ((s.clearEngine e w).modRecord w.slot f).Coherent := by
  obtain ⟨r, found, standing, -⟩ := h.swept run
  refine h.modify (h.vacates_clear run) (tableOk_kept.finish run ends h.tableOk) fun x hx => ?_
  cases found.symm.trans hx
  exact (ends r (Table.mem_of_get found)).seeks ((h.seeks_of_get found).1 (by simp [standing]))

theorem State.Coherent.linkFailed {s : State} (h : s.Coherent) {e : EngineId} {w : Sweep} (run : s.sweep e = some w) :
    ((s.clearEngine e w).waitAndOffer w.slot w.key w.cause).1.Coherent := by
  obtain ⟨r, found, -, key⟩ := h.swept run
  have waits := h.finish run fun r _ => .resume r w.cause
  have := waits.offer (r := { r with standing := .waiting w.cause }) (slot := w.slot)
    (by rw [State.modRecord_table, Table.get_modify, if_pos rfl]; simp [found]) rfl
  exact key ▸ this

theorem coherent_kept : Kept State.Coherent where
  tableOk h := h.tableOk
  rest same h := h.of_same same.1 same.2.1 (State.sweepAt_congr (State.sweep_of_same same.2.2.1 same.2.2.2))
  clear {s} table queue se0 se1 := by
    have idle (i : EngineId) : s.sweep i = none := by cases i <;> assumption
    refine ⟨by simp [State.TableOk, table], by rw [queue]; exact ⟨by decide, by simp, by simp⟩, fun n => ?_⟩
    exact State.Vacant.slotAgrees ⟨by rw [queue]; rfl, fun i => by rw [State.sweepAt, idle]; rfl⟩ (by simp [table])
  progress {s e w v} run slot key h := by
    refine h.of_same (by simp) (by simp) ?_
    funext n i
    rw [State.sweepAt_withSweep]
    split
    next hi => rw [hi, State.sweepAt, run, Option.bind_some, Option.bind_some, slot, key]
    next => rfl
  edit hr e h := h.edit hr e
  editAll e h := h.editAll e
  settle {s slot r f} o hr e h := by
    have found := h.tableOk.get hr
    refine h.modify (h.vacates_withdraw found o) (tableOk_kept.settle o hr e h.tableOk) fun x hx => ?_
    cases found.symm.trans hx
    exact e.seeks
  retire o hr h := h.remove (h.vacates_withdraw (h.tableOk.get hr) o) _ (tableOk_kept.retire o hr h.tableOk)
  evict {s slot r} hr old h := h.remove (h.vacates_remove (h.tableOk.get hr) (Record.evictable_engine old)) _
    (tableOk_kept.evict hr old h.tableOk)
  place policy pin values base stamp free lacks h := h.place policy pin values base stamp free lacks
  offer hr waiting h := h.offer (h.tableOk.get hr) waiting
  promote hr queued h := h.promote (h.tableOk.get hr) queued
  dropLinkEntries l h := h.dropLinkEntries l
  dispatch e h := h.offerDispatch e
  finish run ends h := h.finish run ends
  linkFailed run h := h.linkFailed run

/-- Settles O9: every claim of which a command is made keeps the story that queue, standings and engines tell of each slot. -/
theorem refreshStandingsStayCoherent : Obligations.RefreshStandingsStayCoherent :=
  fun _ _ h e => State.refreshOk_iff_coherent.2 (coherent_kept.step (State.refreshOk_iff_coherent.1 h) e)

end Sys2Proof.Machine
end

section
/-! The requests that create and what they share with the other requests (O21, O22). -/

namespace Sys2Proof.Machine

/-! ## States by their fields -/

/-- States with the same fields are the same. -/
theorem State.eq_of_fields {s t : State} (table : s.table = t.table) (poolFree : s.poolFree = t.poolFree)
    (epochCount : s.epochCount = t.epochCount) (epoch : s.epoch = t.epoch) (queue : s.queue = t.queue) (se0 : s.se0 = t.se0)
    (se1 : s.se1 = t.se1) (aliases : s.aliases = t.aliases) (links : s.links = t.links) (host : s.host = t.host)
    (store : s.store = t.store) (rstN : s.rstN = t.rstN) (considerDue : s.considerDue = t.considerDue)
    (freeCount : s.freeCount = t.freeCount) (pending : s.pending = t.pending) : s = t := by
  cases s
  cases t
  simp_all

/-! ## Operations that read neither the Host Port nor more of a link than its state -/

theorem State.displace_congr {s t : State} (table : t.table = s.table) (queue : t.queue = s.queue) :
    t.displace.table = s.displace.table ∧ t.displace.queue = s.displace.queue := by
  simp only [State.displace, queue]
  split <;> simp [State.setStanding, table, queue]

theorem State.placeEntry_congr {s t : State} (e : QEntry) (table : t.table = s.table) (queue : t.queue = s.queue) :
    (t.placeEntry e).table = (s.placeEntry e).table ∧ (t.placeEntry e).queue = (s.placeEntry e).queue := by
  simp [State.placeEntry, State.setStanding, table, queue]

/-- What an offer does to table and queue, and what it answers, rests on these two and on the state of the record's link. -/
theorem State.offer_congr {s t : State} (slot : Nat) {key : Key} (c : Cause) (table : t.table = s.table) (queue : t.queue = s.queue)
    (state : (t.link key.link).state = (s.link key.link).state) :
    (t.offer slot key c).1.table = (s.offer slot key c).1.table ∧ (t.offer slot key c).1.queue = (s.offer slot key c).1.queue
      ∧ (t.considerDue = s.considerDue → (t.offer slot key c).1.considerDue = (s.offer slot key c).1.considerDue)
      ∧ (t.offer slot key c).2 = (s.offer slot key c).2 := by
  have displaced := State.displace_congr table queue
  simp only [State.offer, State.join, state, queue]
  (repeat' split)
  · exact ⟨table, queue, id, rfl⟩
  · have := State.placeEntry_congr { slot := slot, key := key, cause := c } table queue
    exact ⟨this.1, this.2, fun _ => rfl, rfl⟩
  · have := State.placeEntry_congr { slot := slot, key := key, cause := c } displaced.1 displaced.2
    exact ⟨this.1, this.2, fun _ => rfl, rfl⟩
  · exact ⟨table, queue, id, rfl⟩

theorem State.offer_withHost (s : State) (h : HostPort) (slot : Nat) (key : Key) (c : Cause) :
    (s.withHost h).offer slot key c = ((s.offer slot key c).1.withHost h, (s.offer slot key c).2) := by
  obtain ⟨table, queue, due, action⟩ := State.offer_congr (s := s) (t := s.withHost h) slot (key := key) c rfl rfl rfl
  refine Prod.ext (State.eq_of_fields ?_ ?_ ?_ ?_ ?_ ?_ ?_ ?_ ?_ ?_ ?_ ?_ ?_ ?_ ?_) action
  case refine_1 => exact table
  case refine_5 => exact queue
  case refine_13 => exact due rfl
  all_goals simp

theorem State.offer_withLink (s : State) (l : LinkId) {v : Link} (state : v.state = (s.link l).state) (slot : Nat) (key : Key) (c : Cause) :
    (s.withLink l v).offer slot key c = ((s.offer slot key c).1.withLink l v, (s.offer slot key c).2) := by
  have same : ((s.withLink l v).link key.link).state = (s.link key.link).state := by
    rw [State.withLink_link_eq]
    split
    next hl => rw [state, hl]
    next => rfl
  obtain ⟨table, queue, due, action⟩ := State.offer_congr (s := s) (t := s.withLink l v) slot (key := key) c rfl rfl same
  refine Prod.ext (State.eq_of_fields ?_ ?_ ?_ ?_ ?_ ?_ ?_ ?_ ?_ ?_ ?_ ?_ ?_ ?_ ?_) action
  case refine_1 => exact table
  case refine_5 => exact queue
  case refine_9 => simp [State.withLink]
  case refine_13 => exact due rfl
  all_goals simp

theorem State.waitAndOffer_withHost (s : State) (h : HostPort) (slot : Nat) (key : Key) (c : Cause) :
    (s.withHost h).waitAndOffer slot key c = ((s.waitAndOffer slot key c).1.withHost h, (s.waitAndOffer slot key c).2) :=
  State.offer_withHost (s.setStanding slot (.waiting c)) h slot key c

theorem State.createRecord_withHost (s : State) (h : HostPort) (slot : Nat) (r : Record) :
    (s.withHost h).createRecord slot r = (s.createRecord slot r).withHost h := by
  simp only [State.createRecord]
  split
  · exact congrArg Prod.fst (State.offer_withHost (s.withTable _) h slot r.key _)
  · rfl

/-! ## Taking a request -/

theorem State.beginRequest_withHost (s : State) : s.beginRequest = s.withHost s.beginRequest.host := by
  rw [State.beginRequest_eq]
  rfl

/-- A request that can be taken is answered with what its act answers. -/
theorem State.whileRunning_takes {s : State} {kind : Byte} {body : List Byte} (h : s.Takes kind body) (act : List Byte → State → Answer) :
    whileRunning s (s.takeRequest kind body act) =
      .next ((act body s.beginRequest).state.joinReply ((act body s.beginRequest).reply kind body)) := by
  rw [whileRunning_of_high h.1, State.takeRequest_of_takes h]

/-- A request whose act leaves the Host Port alone is answered without a notice. -/
theorem State.whileRunning_takes_quiet {s t : State} {kind : Byte} {body : List Byte} (h : s.Takes kind body)
    {act : List Byte → State → Answer} {status : Status} {payload : List Byte}
    (ha : ∀ host, act body (s.withHost host) = { state := t.withHost host, status := status, payload := payload }) :
    whileRunning s (s.takeRequest kind body act) =
      .next { t with host := s.replied { kind := kind, id := byteAt body 0, status := status, payload := payload } } := by
  rw [State.whileRunning_takes h, s.beginRequest_withHost, ha,
    State.joinReply_host (s := s) (t := t.withHost s.beginRequest.host) rfl]
  rfl

/-! ## The fields of a body -/

theorem keyAt?_of_key (id : Byte) (key : Key) (rest : List Byte) : keyAt? (id :: (key.bytes ++ rest)) 1 = some key :=
  keyOf?_bytes key

/-! ## CREATE -/

theorem actCreate_body (s : State) (id : Byte) (key : Key) (policy : Policy) (pin : Bool) {values : Option Values}
    (range : ∀ v ∈ values, v.InRange) :
    actCreate (createBody id key policy pin values) s = s.createClaim key policy pin values := by
  have at₁ : keyAt? (createBody id key policy pin values) 1 = some key := by
    simp only [createBody, List.append_assoc]
    exact keyAt?_of_key id key _
  have at₅ : byteAt (createBody id key policy pin values) 5 = policy.code := rfl
  have at₆ : byteAt (createBody id key policy pin values) 6 = switchCode pin := rfl
  rw [actCreate, at₁, at₅, at₆, policyOf?_code, switchOf?_code]
  cases values with
  | none => rfl
  | some v =>
    have at₇ : valuesAt? (createBody id key policy pin (some v)) 7 = some v := valuesAt?_read (range v rfl) rfl
    rw [at₇]
    rfl

section
variable {s : State} {key : Key} {policy : Policy} {pin : Bool} {values : Option Values}

theorem State.createClaim_held (held : ¬s.Lacks key) : s.createClaim key policy pin values = s.refuse .keyExists := by
  rw [State.createClaim]
  split
  · rfl
  next absent => exact absurd (Table.findKey_none.1 absent) held

theorem State.createClaim_full (lacks : s.Lacks key) (full : ∀ n < 512, Table.get s.table n ≠ none) :
    s.createClaim key policy pin values = s.refuse .tableFull := by
  simp [State.createClaim, State.findKey_of_lacks lacks, Table.lowestFree_none.2 full]

theorem State.createClaim_free {n : Nat} (lacks : s.Lacks key) (free : s.LowestFree n) :
    s.createClaim key policy pin values =
      (s.createRecord n (newRecord key policy pin values s.params.baseInterval s.epochCount)).accept (bytes2 n) := by
  simp [State.createClaim, State.findKey_of_lacks lacks, State.lowestFree_some.2 free]

end

/-- CREATE of an absent key with a slot free: the record is placed, and what the Host Port holds does not matter. -/
theorem actCreate_free {s : State} {id : Byte} {key : Key} {policy : Policy} {pin : Bool} {values : Option Values} {n : Nat}
    (range : ∀ v ∈ values, v.InRange) (lacks : s.Lacks key) (free : s.LowestFree n) (host : HostPort) :
    actCreate (createBody id key policy pin values) (s.withHost host) =
      { state := (s.createRecord n (newRecord key policy pin values s.params.baseInterval s.epochCount)).withHost host
        status := .ok
        payload := bytes2 n } := by
  rw [actCreate_body _ id key policy pin range, State.createClaim_free (s := s.withHost host) lacks free,
    State.createRecord_withHost]
  rfl

/-- The fields of a new record that seeks no sweep (R16). -/
theorem newRecord_fields (key : Key) (policy : Policy) (pin : Bool) (values : Option Values) (base stamp : Nat)
    (idle : values ≠ none ∨ policy = .fixed) :
    newRecord key policy pin values base stamp =
      { key := key
        state := if values = none then .pending else .valid
        policy := policy
        pin := pin
        held := values.map fun v => { values := v, origin := .host }
        generation := if values = none then 0x00#8 else 0x01#8
        age := 0
        interval := base
        streak := 0
        failCount := 0
        standing := .idle
        lastUse := stamp
        profile := none } := by
  cases values with
  | none => simp [newRecord, show policy = .fixed from idle.resolve_left (by simp)]
  | some v => simp [newRecord]

/-- A record that is not WAITING is only placed. -/
theorem State.createRecord_idle {s : State} {n : Nat} {r : Record} (idle : r.standing = .idle) :
    s.createRecord n r = s.withTable (Table.put s.table n r) := by
  simp [State.createRecord, idle]

/-- Settles O21: a CREATE that seeks no sweep only places its record, and a refused one changes nothing. -/
theorem createStoresRecord : Obligations.CreateStoresRecord := by
  intro s id key policy pin values takes range
  refine ⟨fun n lacks free idle => ?_, fun held => ?_, fun lacks full => ?_⟩
  · have placed := State.whileRunning_takes_quiet (kind := kindCreate) takes (actCreate_free range lacks free)
    rw [State.createRecord_idle (by rw [newRecord_fields _ _ _ _ _ _ idle])] at placed
    refine ⟨_, placed, fun m => ?_, rfl, rfl⟩
    rw [← newRecord_fields key policy pin values _ _ idle]
    exact Table.get_put s.table n m _
  · exact State.whileRunning_takes_quiet (kind := kindCreate) takes fun host => by
      rw [actCreate_body _ id key policy pin range, State.createClaim_held (s := s.withHost host) held]
      rfl
  · exact State.whileRunning_takes_quiet (kind := kindCreate) takes fun host => by
      rw [actCreate_body _ id key policy pin range, State.createClaim_full (s := s.withHost host) lacks full]
      rfl

/-- Settles O22: the record is placed, and the offer of its FIRST join does not read the Host Port. -/
theorem createOffersFirstJoin : Obligations.CreateOffersFirstJoin := by
  intro s id key pin n takes lacks free
  exact ⟨s.withTable (Table.put s.table n (newRecord key .auto pin none s.params.baseInterval s.epochCount)),
    fun m => Table.get_put s.table n m _, rfl,
    State.whileRunning_takes_quiet (kind := kindCreate) takes (actCreate_free (by simp) lacks free)⟩

end Sys2Proof.Machine
end

section
/-! LOAD, RETIRE and SET_POLICY by their fields, and on a record that is not under sweep (O24, O27, O28). -/

namespace Sys2Proof.Machine

/-! ## The requests by their fields -/

section
variable {s : State} {slot : Nat} {r : Record}

theorem State.onRecord_holds {key : Key} (holds : s.Holds key slot r) (act : Nat → Record → Answer) :
    s.onRecord key act = act slot r := by
  simp [State.onRecord, State.findKey_of_holds holds]

theorem actLoad_holds {v : Values} (range : v.InRange) (holds : s.Holds r.key slot r) (id : Byte) :
    actLoad (loadBody id r.key v) s =
      (((s.withdraw slot r .superseded).freeProfile slot r).modRecord slot fun r => r.loaded s.params.baseInterval v).accept
        (bytes2 slot ++ [r.generation + 1]) := by
  have at₁ : keyAt? (loadBody id r.key v) 1 = some r.key := keyAt?_of_key id r.key v.bytes
  have at₅ : valuesAt? (loadBody id r.key v) 5 = some v := valuesAt?_read range rfl
  rw [actLoad, at₁, at₅]
  exact State.onRecord_holds holds _

theorem actRetire_holds (holds : s.Holds r.key slot r) (id : Byte) :
    actRetire (keyBody id r.key) s = ((s.withdraw slot r .aborted).removeRecord slot r).accept (bytes2 slot) := by
  have at₁ : keyAt? (keyBody id r.key) 1 = some r.key := keyOf?_bytes r.key
  rw [actRetire, State.keyRequest, at₁]
  exact State.onRecord_holds holds _

theorem actSetPolicy_holds (holds : s.Holds r.key slot r) (id : Byte) (policy : Policy) (pin : Bool) :
    actSetPolicy (setPolicyBody id r.key.raw policy (switchCode pin)) s =
      (s.setPolicyClaim slot r policy pin).accept (bytes2 slot ++ [(s.setPolicyClaim slot r policy pin).stateByte slot]) := by
  have at₁ : keyAt? (setPolicyBody id r.key.raw policy (switchCode pin)) 1 = some r.key := keyOf?_bytes r.key
  have at₅ : byteAt (setPolicyBody id r.key.raw policy (switchCode pin)) 5 = policy.code := rfl
  have at₆ : byteAt (setPolicyBody id r.key.raw policy (switchCode pin)) 6 = switchCode pin := rfl
  rw [actSetPolicy, at₁, at₅, at₆, policyOf?_code, switchOf?_code]
  exact State.onRecord_holds holds _

theorem State.stateByte_of_get (found : Table.get s.table slot = some r) : s.stateByte slot = r.state.code := by
  simp [State.stateByte, found]

/-! ## Withdrawal -/

/-- A record that is not under sweep leaves at most its queue entry (R73). -/
theorem State.withdraw_unswept (unswept : ∀ e, r.standing ≠ .sweeping e) (o : SweepOutcome) :
    s.withdraw slot r o = s.withQueue (s.queueWithout slot r) := by
  cases hs : r.standing with
  | sweeping e => exact absurd hs (unswept e)
  | queued c => simp [State.withdraw, State.queueWithout, hs, RefreshQueue.remove]
  | idle | waiting c | retry n => simp [State.withdraw, State.queueWithout, hs]; rfl

/-- A record under sweep stops its engine (R109, R110). -/
theorem State.withdraw_swept {e : EngineId} {w : Sweep} (standing : r.standing = .sweeping e) (run : s.sweep e = some w)
    (o : SweepOutcome) : s.withdraw slot r o = (s.endStopped e w o).nextDraw := by
  simp [State.withdraw, standing, run]

end

theorem Table.differsAt_modify_map (t : Table) (slot : Nat) (f : Record → Record) :
    Table.DiffersAt t (Table.modify t slot f) slot ((Table.get t slot).map f) := by
  intro m
  rw [Table.get_modify]
  split
  next hm => rw [hm]
  next => rfl

/-- A change of the record that a slot holds. -/
theorem Table.differsAt_modify {t : Table} {slot : Nat} {r : Record} (found : Table.get t slot = some r) (f : Record → Record) :
    Table.DiffersAt t (Table.modify t slot f) slot (some (f r)) := by
  simpa [found] using Table.differsAt_modify_map t slot f

theorem Table.differsAt_erase (t : Table) (slot : Nat) : Table.DiffersAt t (Table.erase t slot) slot none :=
  fun m => Table.get_erase t slot m

theorem RecState.madeFixed_eq (st : RecState) :
    st.madeFixed = if st = .due ∨ st = .stale ∨ st = .suspect then .valid else st := by cases st <;> rfl

/-- The two changes of a loaded record are one. -/
theorem State.loaded_table (u : State) (slot : Nat) (r : Record) (base : Nat) (v : Values) :
    ((u.freeProfile slot r).modRecord slot (·.loaded base v)).table =
      Table.modify u.table slot fun r => ({ r with profile := none } : Record).loaded base v :=
  Table.modify_modify u.table slot (fun r => { r with profile := none }) (·.loaded base v)

/-- Settles O24: the record only leaves its queue entry, so no notice joins ahead of the reply. -/
theorem loadReplacesValues : Obligations.LoadReplacesValues := by
  intro s id v slot r takes range holds unswept
  have answered := State.whileRunning_takes_quiet (kind := kindLoad) (act := actLoad) (status := .ok)
    (t := ((s.withQueue (s.queueWithout slot r)).freeProfile slot r).modRecord slot (·.loaded s.params.baseInterval v))
    (payload := bytes2 slot ++ [r.generation + 1]) takes fun host => by
      rw [actLoad_holds (s := s.withHost host) range holds, State.withdraw_unswept unswept]
      rfl
  refine ⟨_, answered, ?_, rfl, rfl, rfl, rfl⟩
  exact State.loaded_table (s.withQueue (s.queueWithout slot r)) slot r s.params.baseInterval v ▸
    Table.differsAt_modify (State.get_of_holds holds) _

/-! ## SET_POLICY -/

section
variable {s : State} {slot : Nat} {r : Record}

theorem State.setPolicyClaim_pin {policy : Policy} (same : r.policy = policy) (pin : Bool) :
    s.setPolicyClaim slot r policy pin = s.modRecord slot fun r => { r with pin := pin } := by
  cases policy <;> simp [State.setPolicyClaim, same]

theorem State.setPolicyClaim_fix (auto : r.policy = .auto) (pin : Bool) :
    s.setPolicyClaim slot r .fixed pin = s.makeFixed slot r pin := by
  simp [State.setPolicyClaim, auto]

theorem State.setPolicyClaim_handOver (fixed : r.policy = .fixed) (pin : Bool) :
    s.setPolicyClaim slot r .auto pin = s.makeAuto slot r pin := by
  simp [State.setPolicyClaim, fixed]

/-- A SET_POLICY whose claim leaves the Host Port alone is answered without a notice, with the state that the record then has. -/
theorem State.setPolicy_quiet {id : Byte} {policy : Policy} {pin : Bool} {t : State} {after : Record}
    (takes : s.Takes kindSetPolicy (setPolicyBody id r.key.raw policy (switchCode pin))) (holds : s.Holds r.key slot r)
    (claim : ∀ host, (s.withHost host).setPolicyClaim slot r policy pin = t.withHost host)
    (found : Table.get t.table slot = some after) :
    whileRunning s (s.takeRequest kindSetPolicy (setPolicyBody id r.key.raw policy (switchCode pin)) actSetPolicy) =
      .next
        { t with
          host := s.replied { kind := kindSetPolicy, id := id, status := .ok, payload := bytes2 slot ++ [after.state.code] } } :=
  State.whileRunning_takes_quiet takes fun host => by
    rw [actSetPolicy_holds (s := s.withHost host) holds, claim, State.stateByte_of_get (s := t.withHost host) found]
    rfl

end

/-- Settles O27: the record only leaves its queue entry, so no notice joins ahead of the reply. -/
theorem setPolicyFixedTakesRecordOver : Obligations.SetPolicyFixedTakesRecordOver := by
  intro s id pin slot r takes holds unswept after
  have found := State.get_of_holds holds
  by_cases auto : r.policy = .auto
  · have differs := Table.differsAt_modify found fun r =>
      { r with policy := .fixed, pin := pin, standing := .idle, failCount := 0, state := r.state.madeFixed }
    have answered := State.setPolicy_quiet (policy := .fixed)
      (t := (s.withQueue (s.queueWithout slot r)).modRecord slot fun r =>
        { r with policy := .fixed, pin := pin, standing := .idle, failCount := 0, state := r.state.madeFixed })
      takes holds (fun host => by
        rw [State.setPolicyClaim_fix auto, State.makeFixed, State.withdraw_unswept unswept]
        rfl) ((differs slot).trans (if_pos rfl))
    simp only [after, auto, if_true, ← RecState.madeFixed_eq]
    exact ⟨_, answered, differs, rfl, rfl, rfl⟩
  · have fixed : r.policy = .fixed := by cases h : r.policy <;> simp_all
    have differs := Table.differsAt_modify found fun r => { r with pin := pin }
    have answered := State.setPolicy_quiet (policy := .fixed) (t := s.modRecord slot fun r => { r with pin := pin }) takes holds
      (fun host => State.setPolicyClaim_pin fixed pin) ((differs slot).trans (if_pos rfl))
    simp only [after, auto, if_false]
    exact ⟨_, answered, differs, rfl, rfl, rfl⟩

/-- The state of a record made AUTO, and the cause of the place it seeks, as R23 has them. -/
theorem Record.madeAuto_eq (r : Record) (staleLimit : Nat) :
    let state : RecState :=
      if r.state = .valid then if staleLimit ≤ r.age then .stale else if r.interval ≤ r.age then .due else .valid else r.state
    r.madeAuto staleLimit =
      (state, if r.state = .pending then some .first else if r.state = .valid ∧ state ≠ .valid then some .scheduled else none) := by
  cases h : r.state with
  | valid =>
    simp only [Record.madeAuto, h]
    by_cases stale : staleLimit ≤ r.age
    · simp [stale]
    · by_cases due : r.interval ≤ r.age <;> simp [stale, due]
  | _ => simp [Record.madeAuto, h]

/-- The record made AUTO, with the standing that it takes (R23). -/
def Record.seeking (r : Record) (m : RecState × Option Cause) (pin : Bool) : Record :=
  { r with policy := .auto, pin := pin, state := m.1, standing := (m.2.map Standing.waiting).getD .idle }

def State.madeAuto (s : State) (slot : Nat) (m : RecState × Option Cause) (pin : Bool) : State :=
  s.modRecord slot (·.seeking m pin)

theorem State.madeAuto_differsAt {s : State} {slot : Nat} {r : Record} (found : Table.get s.table slot = some r)
    (m : RecState × Option Cause) (pin : Bool) :
    Table.DiffersAt s.table (s.madeAuto slot m pin).table slot (some (r.seeking m pin)) :=
  Table.differsAt_modify found (·.seeking m pin)

theorem State.makeAuto_eq (s : State) (slot : Nat) (r : Record) (pin : Bool) :
    s.makeAuto slot r pin =
      match (r.madeAuto s.params.staleLimit).2 with
      | some c => ((s.madeAuto slot (r.madeAuto s.params.staleLimit) pin).offer slot r.key c).1
      | none => s.madeAuto slot (r.madeAuto s.params.staleLimit) pin := by
  rw [State.makeAuto]
  obtain ⟨state, cause⟩ := r.madeAuto s.params.staleLimit
  cases cause with
  | none => rfl
  | some c =>
    show ((s.modRecord slot _).modRecord slot _ |>.offer slot r.key c).1 = _
    rw [State.modRecord_modRecord]
    rfl

theorem State.makeAuto_withHost (s : State) (h : HostPort) (slot : Nat) (r : Record) (pin : Bool) :
    (s.withHost h).makeAuto slot r pin = (s.makeAuto slot r pin).withHost h := by
  rw [State.makeAuto_eq, State.makeAuto_eq]
  show (match (r.madeAuto s.params.staleLimit).2 with | some c => _ | none => _) = _
  cases (r.madeAuto s.params.staleLimit).2 with
  | some c => exact congrArg Prod.fst (State.offer_withHost (s.madeAuto slot _ pin) h slot r.key c)
  | none => rfl

/-- The offer of a place to a record made AUTO leaves it the state that R23 gave it. -/
theorem State.makeAuto_state {s : State} {slot : Nat} {r : Record} (found : Table.get s.table slot = some r) (pin : Bool) :
    ∃ after, Table.get (s.makeAuto slot r pin).table slot = some after ∧ after.state = (r.madeAuto s.params.staleLimit).1 := by
  have handed := (State.madeAuto_differsAt found (r.madeAuto s.params.staleLimit) pin slot).trans (if_pos rfl)
  rw [State.makeAuto_eq]
  split
  next c _ =>
    obtain ⟨st, same⟩ := State.offer_sameButStandings (s.madeAuto slot (r.madeAuto s.params.staleLimit) pin) slot r.key c slot
    exact ⟨_, same.trans (congrArg _ handed), rfl⟩
  next => exact ⟨_, handed, rfl⟩

/-- Settles O28: the offer of a place reads nothing of the Host Port and leaves the state that the reply carries. -/
theorem setPolicyAutoHandsRecordOver : Obligations.SetPolicyAutoHandsRecordOver := by
  intro s id pin slot r takes holds
  have found := State.get_of_holds holds
  refine ⟨fun auto => ?_, fun fixed => ?_⟩
  · have differs := Table.differsAt_modify found fun r => { r with pin := pin }
    have answered := State.setPolicy_quiet (policy := .auto) (t := s.modRecord slot fun r => { r with pin := pin }) takes holds
      (fun host => State.setPolicyClaim_pin auto pin) ((differs slot).trans (if_pos rfl))
    exact ⟨_, answered, differs, rfl, rfl⟩
  · intro state cause
    obtain ⟨after, handed, stateAfter⟩ := State.makeAuto_state found pin
    have answered := State.setPolicy_quiet (policy := .auto) takes holds (fun host => by
      rw [State.setPolicyClaim_handOver fixed, State.makeAuto_withHost]) handed
    have made : r.madeAuto s.params.staleLimit = (state, cause) := r.madeAuto_eq s.params.staleLimit
    refine ⟨s.madeAuto slot (state, cause) pin, State.madeAuto_differsAt found _ pin, rfl, ?_⟩
    rw [stateAfter, State.makeAuto_eq, made] at answered
    exact answered

end Sys2Proof.Machine
end

section
/-! What a stop leaves behind: the link's outbound queue, the engine and the notice (R109); and the requests that stop a running
sweep before they act (O29). -/

namespace Sys2Proof.Machine

/-! ## Notices -/

theorem State.emit_eq (s : State) (n : Notice) : s.emit n = s.withHost (s.host.emitted s.params.noticeMask [n]) := by
  simp only [State.emit, HostPort.emitted, List.foldl_cons, List.foldl_nil]
  split <;> rfl

theorem HostPort.emitted_emitted (h : HostPort) (mask : Nat) (ns ns' : List Notice) :
    (h.emitted mask ns).emitted mask ns' = h.emitted mask (ns ++ ns') :=
  List.foldl_append.symm

/-- A request whose act only emits notices on the Host Port is answered behind these. -/
theorem State.whileRunning_takes_noticed {s t : State} {kind : Byte} {body : List Byte} (h : s.Takes kind body)
    {act : List Byte → State → Answer} {mask : Nat} {notices : List Notice} {status : Status} {payload : List Byte}
    (ha : ∀ host : HostPort,
      act body (s.withHost host) = { state := t.withHost (host.emitted mask notices), status := status, payload := payload }) :
    whileRunning s (s.takeRequest kind body act) =
      .next
        { t with
          host := s.answered mask notices { kind := kind, id := byteAt body 0, status := status, payload := payload } } := by
  rw [State.whileRunning_takes h, s.beginRequest_withHost, ha, State.beginRequest_eq]
  rfl

/-! ## Removals and stops -/

theorem State.removeOut_withHost (s : State) (h : HostPort) (l : LinkId) (p : OutMsg → Bool) :
    (s.withHost h).removeOut l p = (s.removeOut l p).withHost h := by
  show (match (s.link l).out with | [] => _ | m :: rest => _) = _
  rw [State.removeOut]
  cases (s.link l).out with
  | nil => rfl
  | cons m rest => by_cases hm : p m = true <;> simp only [hm] <;> rfl

theorem State.stopEngine_withHost (s : State) (h : HostPort) (e : EngineId) (w : Sweep) :
    (s.withHost h).stopEngine e w = (s.stopEngine e w).withHost h := by
  rw [State.stopEngine, State.removeOut_withHost]
  cases e <;> rfl

/-- The message that a removal reaches leaves, or only finishes on the wire. -/
theorem State.removeOut_out_unmet (s : State) (l : LinkId) (p : OutMsg → Bool) :
    ∀ m ∈ ((s.removeOut l p).link l).out, m.orphan = false → p m = false := by
  intro m hm waits
  cases sending : Config.headInTransmission s.freeCount l with
  | false =>
    rw [State.removeOut_out_idle s l p sending] at hm
    simpa using List.of_mem_filter hm
  | true =>
    cases e : (s.link l).out with
    | nil => simp [State.removeOut, e] at hm
    | cons head rest =>
      rw [State.removeOut_out_sending s l p sending e, List.mem_cons] at hm
      rcases hm with rfl | hm
      · by_cases met : p head = true
        · simp [met] at waits
        · simp [met]
      · simpa using List.of_mem_filter hm

section
variable (s : State) (e : EngineId) (w : Sweep)

theorem State.clearEngine_link_self : (s.clearEngine e w).link w.key.link = { s.link w.key.link with awaited := none } := by
  simp [State.clearEngine]

theorem State.clearEngine_link_other {l : LinkId} (h : l ≠ w.key.link) : (s.clearEngine e w).link l = s.link l := by
  simp [State.clearEngine, State.withLink_link_ne, h]

@[simp] theorem State.clearEngine_considerDue : (s.clearEngine e w).considerDue = true := by simp [State.clearEngine]

theorem State.stopEngine_link_self :
    (s.stopEngine e w).link w.key.link = { (s.removeOut w.key.link OutMsg.isCalRequest).link w.key.link with awaited := none } :=
  State.clearEngine_link_self _ e w

theorem State.stopEngine_out :
    ((s.stopEngine e w).link w.key.link).out = ((s.removeOut w.key.link OutMsg.isCalRequest).link w.key.link).out := by
  rw [State.stopEngine_link_self]

theorem State.stopEngine_link_rest :
    { (s.stopEngine e w).link w.key.link with awaited := (s.link w.key.link).awaited, out := (s.link w.key.link).out } =
      s.link w.key.link := by
  have rest := s.removeOut_link_rest w.key.link OutMsg.isCalRequest
  have awaited := congrArg Link.awaited rest
  rw [s.stopEngine_link_self e w, ← awaited]
  exact rest

theorem State.stopEngine_link_other {l : LinkId} (h : l ≠ w.key.link) : (s.stopEngine e w).link l = s.link l := by
  rw [State.stopEngine, State.clearEngine_link_other _ e w h, State.removeOut_link_other s _ _ h]

end

theorem otherEngine_ne (e : EngineId) : otherEngine e ≠ e := by cases e <;> decide

theorem OutMsg.isCalRequest_waits {m : OutMsg} (h : m.isCalRequest = true) : m.orphan = false := by
  rw [OutMsg.isCalRequest, Bool.and_eq_true] at h
  simpa using h.1

/-- What waits after a removal of the requests is none. -/
theorem OutMsg.not_calRequest {m : OutMsg} (h : m.isCalRequest = false) (waits : m.orphan = false) (q : CalRequest) :
    m.body ≠ .calRequest q := by
  intro body
  simp [OutMsg.isCalRequest, body, waits] at h

/-- A removal of the requests leaves every other class of messages as it was. -/
theorem OutMsg.isCalRequest_class {m : OutMsg} {q : OutBody → Bool} (hq : ∀ r, q (.calRequest r) = false) (h : m.isCalRequest = true) :
    q m.body = false ∧ q ({ m with orphan := true } : OutMsg).body = false := by
  rw [OutMsg.isCalRequest, Bool.and_eq_true] at h
  cases body : m.body with
  | calRequest r => exact ⟨hq r, hq r⟩
  | _ => simp [body] at h

/-! ## The requests -/

section
variable {s : State} {slot : Nat} {r : Record} {e : EngineId} {w : Sweep}

theorem State.withdraw_swept_withHost (standing : r.standing = .sweeping e) (run : s.sweep e = some w) (o : SweepOutcome)
    (host : HostPort) :
    (s.withHost host).withdraw slot r o =
      (s.stopEngine e w).nextDraw.withHost (host.emitted s.params.noticeMask [w.endNotice e o false]) := by
  rw [State.withdraw_swept (s := s.withHost host) standing run, State.endStopped, State.stopEngine_withHost, State.emit_eq]
  have mask : (s.stopEngine e w).params = s.params := by simp
  simp only [State.withHost_params, mask]
  rfl

/-- The state after a request that stopped the record's sweep first, its table and Host Port given. -/
def State.afterStop (s : State) (e : EngineId) (w : Sweep) (table : Table) (freed : Nat) (host : HostPort) : State :=
  { (s.stopEngine e w).nextDraw with table := table, poolFree := (s.stopEngine e w).poolFree + freed, host := host }

/-- A request that stops the record's sweep first, acts on the slot, and is answered behind the notice. -/
def State.ActsAfterStop (s : State) (e : EngineId) (w : Sweep) (slot : Nat) (c : Instr) (after : Option Record) (freed : Nat)
    (notice : Notice) (reply : Reply) : Prop :=
  ∃ table, Table.DiffersAt s.table table slot after ∧
    exec c s = .next (s.afterStop e w table freed (s.answered s.params.noticeMask [notice] reply))

theorem State.differsAt_of_stopEngine {table : Table} {after : Option Record}
    (h : Table.DiffersAt (s.stopEngine e w).table table slot after) : Table.DiffersAt s.table table slot after :=
  (s.stopEngine_frame e w).1 ▸ h

theorem load_actsAfterStop {id : Byte} {v : Values} (takes : s.Takes kindLoad (loadBody id r.key v)) (range : v.InRange)
    (holds : s.Holds r.key slot r) (standing : r.standing = .sweeping e) (run : s.sweep e = some w) :
    s.ActsAfterStop e w slot (.load (loadBody id r.key v))
      (some (({ r with profile := none } : Record).loaded s.params.baseInterval v)) r.profilePoints
      (w.endNotice e .superseded false)
      { kind := kindLoad, id := id, status := .ok, payload := bytes2 slot ++ [r.generation + 1] } := by
  have found : Table.get (s.stopEngine e w).table slot = some r := by simpa using State.get_of_holds holds
  have differs := Table.differsAt_modify found fun r => ({ r with profile := none } : Record).loaded s.params.baseInterval v
  rw [← State.loaded_table _ slot r] at differs
  have answered := State.whileRunning_takes_noticed (act := actLoad) (status := .ok)
    (t := ((s.stopEngine e w).nextDraw.freeProfile slot r).modRecord slot (·.loaded s.params.baseInterval v))
    (payload := bytes2 slot ++ [r.generation + 1]) takes fun host => by
      rw [actLoad_holds (s := s.withHost host) range holds, State.withdraw_swept_withHost standing run]
      rfl
  exact ⟨_, State.differsAt_of_stopEngine differs, answered⟩

theorem setPolicyFixed_actsAfterStop {id : Byte} {pin : Bool}
    (takes : s.Takes kindSetPolicy (setPolicyBody id r.key.raw .fixed (switchCode pin))) (auto : r.policy = .auto)
    (holds : s.Holds r.key slot r) (standing : r.standing = .sweeping e) (run : s.sweep e = some w) :
    s.ActsAfterStop e w slot (.setPolicyFixed id r.key.raw (switchCode pin))
      (some { r with policy := .fixed, pin := pin, standing := .idle, failCount := 0, state := r.state.madeFixed }) 0
      (w.endNotice e .superseded false)
      { kind := kindSetPolicy, id := id, status := .ok, payload := bytes2 slot ++ [r.state.madeFixed.code] } := by
  have found : Table.get (s.stopEngine e w).table slot = some r := by simpa using State.get_of_holds holds
  have differs := Table.differsAt_modify found fun r =>
    { r with policy := .fixed, pin := pin, standing := .idle, failCount := 0, state := r.state.madeFixed }
  have stateByte := State.stateByte_of_get (s := (s.stopEngine e w).withTable _) ((differs slot).trans (if_pos rfl))
  have answered := State.whileRunning_takes_noticed (act := actSetPolicy) (status := .ok)
    (t := (s.stopEngine e w).nextDraw.modRecord slot fun r =>
      { r with policy := .fixed, pin := pin, standing := .idle, failCount := 0, state := r.state.madeFixed })
    (payload := bytes2 slot ++ [r.state.madeFixed.code]) takes fun host => by
      rw [actSetPolicy_holds (s := s.withHost host) holds, State.setPolicyClaim_fix auto, State.makeFixed,
        State.withdraw_swept_withHost standing run, ← stateByte]
      rfl
  exact ⟨_, State.differsAt_of_stopEngine differs, answered⟩

theorem retire_actsAfterStop {id : Byte} (takes : s.Takes kindRetire (keyBody id r.key)) (holds : s.Holds r.key slot r)
    (standing : r.standing = .sweeping e) (run : s.sweep e = some w) :
    s.ActsAfterStop e w slot (.retire (keyBody id r.key)) none r.profilePoints (w.endNotice e .aborted false)
      { kind := kindRetire, id := id, status := .ok, payload := bytes2 slot } := by
  have answered := State.whileRunning_takes_noticed (act := actRetire) (status := .ok)
    (t := (s.stopEngine e w).nextDraw.removeRecord slot r) (payload := bytes2 slot) takes fun host => by
      rw [actRetire_holds (s := s.withHost host) holds, State.withdraw_swept_withHost standing run]
      rfl
  have differs := Table.differsAt_erase (s.stopEngine e w).table slot
  exact ⟨_, State.differsAt_of_stopEngine differs, answered⟩

end

/-- Settles O29: the three requests act on the state that the stop leaves, and the removal's laws say what that is, whether or not the
head message is in transmission. -/
theorem hostStopsSweepFirst : Obligations.HostStopsSweepFirst := by
  intro s id pin v slot r e w c kind body outcome after freed payload kept request takes range holds auto standing run
  have acts : s.ActsAfterStop e w slot c after freed (w.endNotice e outcome false)
      { kind := kind, id := id, status := .ok, payload := payload } := by
    simp only [kept, ← RecState.madeFixed_eq, List.mem_cons, List.not_mem_nil, or_false] at request
    obtain load | setPolicy | retire := request
    · cases load
      exact load_actsAfterStop takes range holds standing run
    · cases setPolicy
      exact setPolicyFixed_actsAfterStop takes auto holds standing run
    · cases retire
      exact retire_actsAfterStop takes holds standing run
  obtain ⟨table, differs, done⟩ := acts
  have link := s.stopEngine_link_self e w
  have out := s.stopEngine_out e w
  refine ⟨_, done, ?idle, ?other, ?rest, ?awaits, ?requests, ?onlyHead, ?others, ?stay, ?links, differs, ?pool, ?due, rfl, ?frame⟩
  case idle => exact (s.stopEngine_sweep e e w).trans (if_pos rfl)
  case other => exact (s.stopEngine_sweep e _ w).trans (if_neg (otherEngine_ne e))
  case rest => exact s.stopEngine_link_rest e w
  case awaits => exact congrArg Link.awaited link
  case requests =>
    show ∀ m ∈ ((s.stopEngine e w).link w.key.link).out, _
    rw [out]
    exact fun m hm waits => OutMsg.not_calRequest (s.removeOut_out_unmet _ _ m hm waits) waits
  case onlyHead =>
    show OnlyHeadFinishes _ ((s.stopEngine e w).link w.key.link).out
    rw [out]
    exact s.removeOut_onlyHead _ _ fun m => OutMsg.isCalRequest_waits
  case others =>
    show ((s.stopEngine e w).link w.key.link).out.filter _ = _
    rw [out]
    exact s.removeOut_out_filter _ _ fun m =>
      OutMsg.isCalRequest_class (q := fun body => match body with | .calRequest _ => false | _ => true) fun r => rfl
  case stay =>
    show List.Sublist _ ((s.stopEngine e w).link w.key.link).out
    rw [out]
    exact s.removeOut_out_sublist _ _
  case links => exact fun l other => s.stopEngine_link_other e w other
  case pool => exact congrArg (· + freed) (s.stopEngine_frame e w).2.1
  case due => exact (s.removeOut w.key.link OutMsg.isCalRequest).clearEngine_considerDue e w
  case frame => refine State.eq_of_fields rfl rfl ?_ ?_ ?_ rfl rfl ?_ rfl rfl ?_ ?_ rfl rfl ?_ <;> simp [State.afterStop]

end Sys2Proof.Machine
end

section
/-! What a sweep's end does to its record: a counted failure (O46) and a commit (O50). -/

namespace Sys2Proof.Machine

section
variable {s : State} {e : EngineId} {w : Sweep} {r : Record}

theorem State.clearEngine_link (l : LinkId) :
    (s.clearEngine e w).link l = if l = w.key.link then { s.link l with awaited := none } else s.link l := by
  split
  next h => rw [h, State.clearEngine_link_self]
  next h => exact s.clearEngine_link_other e w h

theorem State.clearEngine_link_state (l : LinkId) : ((s.clearEngine e w).link l).state = (s.link l).state := by
  rw [State.clearEngine_link]
  split <;> rfl

/-! ## Commit -/

theorem storesProfile_eq (capture : Bool) (free points : Nat) :
    storesProfile capture free points = decide (capture = true ∧ points ≤ free) := by
  simp [storesProfile]

/-- The commit of a record that its slot holds. -/
theorem State.endCommitted_found (found : Table.get s.table w.slot = some r) (v : Values) :
    s.endCommitted e w v =
      ((s.clearEngine e w).takeCommit w.slot r v w).emit
        (w.endNotice e .committed (storesProfile w.plan.capture (s.poolFree + r.profilePoints) w.points.length)) := by
  simp [State.endCommitted, found]

/-! ## Counted failure -/

theorem RecState.afterFailure_eq (st : RecState) : st.afterFailure = if st = .valid ∨ st = .due then .suspect else st := by
  cases st <;> rfl

/-- The record after a counted failure with no countdown, its place apart (R18). -/
def Record.failedWaiting (r : Record) : Record :=
  { r with failCount := r.failCount + 1, state := r.state.afterFailure, standing := .waiting .retry }

/-- A counted failure of a record that its slot holds. -/
theorem State.endFailed_found (found : Table.get s.table w.slot = some r) (reason : FailReason) :
    s.endFailed e w reason =
      ((s.clearEngine e w).takeFailure w.slot r reason).emit (w.endNotice e (.failed reason) false) := by
  simp [State.endFailed, found]

section
variable {slot : Nat} (reason : FailReason)

theorem State.takeFailure_faults (limit : s.params.failLimit ≤ r.failCount + 1) :
    s.takeFailure slot r reason =
      (s.modRecord slot fun r => { r with failCount := r.failCount + 1, state := .faulted, standing := .idle }).emit
        (.recordFaulted r.key slot reason) :=
  if_pos limit

theorem State.takeFailure_retries (limit : r.failCount + 1 < s.params.failLimit) (delay : s.params.retryDelay ≠ 0) :
    s.takeFailure slot r reason =
      s.modRecord slot fun r =>
        { r with failCount := r.failCount + 1, state := r.state.afterFailure, standing := .retry s.params.retryDelay } := by
  rw [State.takeFailure, if_neg (Nat.not_le.2 limit), if_neg delay]
  exact State.modRecord_modRecord _ _ _ _

theorem State.takeFailure_waits (limit : r.failCount + 1 < s.params.failLimit) (delay : s.params.retryDelay = 0) :
    s.takeFailure slot r reason =
      ((s.modRecord slot (·.failedWaiting)).offer slot r.key .retry).1 := by
  rw [State.takeFailure, if_neg (Nat.not_le.2 limit), if_pos delay, State.waitAndOffer, State.setStanding,
    State.modRecord_modRecord]
  rfl

theorem State.takeFailure_host (limit : r.failCount + 1 < s.params.failLimit) : (s.takeFailure slot r reason).host = s.host := by
  rw [State.takeFailure, if_neg (Nat.not_le.2 limit)]
  split <;> simp

end

end

theorem State.emit_host (s : State) (n : Notice) : (s.emit n).host = s.host.emitted s.params.noticeMask [n] := by
  rw [State.emit_eq]
  rfl

/-- A consideration that is due stays due through an offer. -/
theorem State.offer_considerDue {s : State} (due : s.considerDue = true) (slot : Nat) (key : Key) (c : Cause) :
    (s.offer slot key c).1.considerDue = true := by
  simp only [State.offer, State.join]
  (repeat' split) <;> simp [State.placeEntry, due]

theorem State.takeFailure_considerDue {s : State} (due : s.considerDue = true) (slot : Nat) (r : Record) (reason : FailReason) :
    (s.takeFailure slot r reason).considerDue = true := by
  simp only [State.takeFailure]
  (repeat' split)
  · simpa using due
  · exact State.offer_considerDue (by simpa using due) slot r.key .retry
  · simpa using due

/-- Settles O46: clearing the engine leaves table and queue, so the offer of a place decides as it would on the state before. -/
theorem countedFailureAtRecord : Obligations.CountedFailureAtRecord := by
  intro s e w r reason run found t ended below
  have failed : t = ((s.clearEngine e w).takeFailure w.slot r reason).emit ended := State.endFailed_found found reason
  rw [failed]
  have params : (s.clearEngine e w).params = s.params := by simp
  refine ⟨?idle, ?other, fun l => ?link, ?due, ?frame, fun limit => ?faults,
    fun limit => ⟨?host, fun delay => ?retries, fun delay => ?waits⟩⟩
  case idle => simp
  case other => simp [otherEngine_ne]
  case link => simpa using State.clearEngine_link l
  case due =>
    rw [(State.emit_frame _ _).2.2.2.2.2.2.2.2.2.2.2.1]
    exact State.takeFailure_considerDue (s.clearEngine_considerDue e w) w.slot r reason
  case frame => apply State.eq_of_fields <;> simp
  case faults =>
    rw [State.takeFailure_faults reason (by rw [params]; exact limit)]
    refine ⟨?_, by simp, by simp [State.emit_host, HostPort.emitted_emitted]⟩
    simpa using Table.differsAt_modify found _
  case host => simp [State.emit_host, State.takeFailure_host reason (by rw [params]; exact limit)]
  case retries =>
    rw [State.takeFailure_retries reason (by rw [params]; exact limit) (by rw [params]; exact delay)]
    refine ⟨?_, by simp⟩
    simpa [below, ← RecState.afterFailure_eq] using Table.differsAt_modify found _
  case waits =>
    rw [State.takeFailure_waits reason (by rw [params]; exact limit) (by rw [params]; exact delay)]
    obtain ⟨table, queue, -, -⟩ := State.offer_congr (s := s.modRecord w.slot (·.failedWaiting))
      (t := (s.clearEngine e w).modRecord w.slot (·.failedWaiting)) w.slot (key := r.key) .retry (by simp) (by simp)
      (by simp [State.clearEngine_link_state])
    refine ⟨s.modRecord w.slot (·.failedWaiting), ?_, rfl, by simpa using table, by simpa using queue⟩
    simpa [Record.failedWaiting, below, ← RecState.afterFailure_eq] using Table.differsAt_modify found (·.failedWaiting)

/-- Settles O50: the engine is cleared, then the record and the pool take the commit. -/
theorem commitWritesRecord : Obligations.CommitWritesRecord := by
  intro s e w v r run found t free stored
  have ended : t = ((s.clearEngine e w).takeCommit w.slot r v w).emit
      (w.endNotice e .committed (storesProfile w.plan.capture free w.points.length)) := State.endCommitted_found found v
  have stores : storesProfile w.plan.capture free w.points.length = decide stored := storesProfile_eq _ _ _
  rw [stores] at ended
  rw [ended]
  refine ⟨?table, ?pool, ?idle, ?other, fun l => ?link, ?due, ?host, ?frame⟩
  case table =>
    have differs := Table.differsAt_modify found fun x =>
      { x.committed s.params v with profile := if stored then some { level := w.level, points := w.points } else none }
    simpa [State.takeCommit, Record.committed, storesProfile_eq] using differs
  case pool => simp [State.takeCommit, storesProfile_eq, free, stored]
  case idle => simp
  case other => simp [otherEngine_ne]
  case link => simpa using State.clearEngine_link l
  case due => simp
  case host => simp [State.emit_host, Sweep.endNotice]
  case frame => apply State.eq_of_fields <;> simp

end Sys2Proof.Machine
end

section
/-! A link's departure from UP (O58): what a sweep's end FAILED(LINK) leaves, then the departure itself. -/

namespace Sys2Proof.Machine

/-! ## Frames that arrive -/

section
variable {s : State} {l : LinkId} {kind : Byte} {body : List Byte}

theorem State.receivedOn_link_state (m : LinkId) : ((s.receivedOn l kind body).link m).state = (s.link m).state := by
  rw [State.receivedOn, State.withLink_link_eq]
  split
  next h => rw [h]
  next => rfl

theorem State.receivedOn_link_self (l : LinkId) :
    (s.receivedOn l kind body).link l = { s.link l with rx := afterTaken (s.link l).rx (linkFrame kind body) } :=
  State.withLink_link s l _

theorem State.arrive_off (off : (s.link l).state = .off) (act : State → State) : s.arrive l kind body act = s := if_pos off

theorem State.arrive_up (up : (s.link l).state = .up) (act : State → State) :
    s.arrive l kind body (fun s => s.whenUp l (act s)) = act (s.receivedOn l kind body) :=
  (if_neg (by simp [up])).trans (if_pos (State.receivedOn_link_state l |>.trans up))

theorem State.arrive_down (down : (s.link l).state = .down) (act : State → State) :
    s.arrive l kind body (fun s => s.whenUp l (act s)) = s.receivedOn l kind body :=
  (if_neg (by simp [down])).trans (if_neg fun up => by
    rw [← State.receivedOn_link_state (kind := kind) (body := body)] at down
    exact absurd (down.symm.trans up) (by decide))

end

/-! ## Removals -/

/-- What a removal leaves stood there before, or only finishes on the wire. -/
theorem State.removeOut_out_mem (s : State) (l : LinkId) (p : OutMsg → Bool) :
    ∀ m ∈ ((s.removeOut l p).link l).out, m.orphan = false → m ∈ (s.link l).out := by
  intro m hm waits
  cases sending : Config.headInTransmission s.freeCount l with
  | false =>
    rw [State.removeOut_out_idle s l p sending] at hm
    exact List.mem_of_mem_filter hm
  | true =>
    cases e : (s.link l).out with
    | nil => simp [State.removeOut, e] at hm
    | cons head rest =>
      rw [State.removeOut_out_sending s l p sending e, List.mem_cons] at hm
      rcases hm with rfl | hm
      · by_cases met : p head = true
        · simp [met] at waits
        · simp [met]
      · exact List.mem_cons_of_mem _ (List.mem_of_mem_filter hm)

/-- Two removals of one claim read the same free value, so the second makes no other message finish on the wire than the head message of
before the first. -/
theorem State.removeOut_onlyHead_twice {s u : State} {l : LinkId} {p q : OutMsg → Bool} (hp : ∀ m, p m = true → m.orphan = false)
    (hq : ∀ m, q m = true → m.orphan = false) (out : (u.link l).out = ((s.removeOut l p).link l).out)
    (claim : u.freeCount = s.freeCount) : OnlyHeadFinishes (s.link l).out ((u.removeOut l q).link l).out := by
  intro m hm finishes
  cases sending : Config.headInTransmission s.freeCount l with
  | false =>
    rw [u.removeOut_out_idle l q (by rw [claim, sending]), out, s.removeOut_out_idle l p sending] at hm
    exact .inl (List.mem_of_mem_filter (List.mem_of_mem_filter hm))
  | true =>
    rcases u.removeOut_onlyHead l q hq m hm finishes with stood | head
    · exact s.removeOut_onlyHead l p hp m (out ▸ stood) finishes
    · rw [out] at head
      cases e : (s.link l).out with
      | nil => simp [State.removeOut, e] at head
      | cons first rest =>
        rw [s.removeOut_out_sending l p sending e] at head
        by_cases met : p first = true
        · simp [met] at head
        · exact .inr (by simpa [met] using head)

/-! ## The departure -/

/-- The sweep on a link that leaves UP has ended, or none ran: nothing else of the link has changed, and only its head message can be
finishing on the wire after the CORRECTIONs go too. -/
structure State.ReadyToDepart (s u : State) (l : LinkId) : Prop where
  others : ∀ m, m ≠ l → u.link m = s.link m
  rest : { u.link l with awaited := (s.link l).awaited, out := (s.link l).out } = s.link l
  onlyHead : OnlyHeadFinishes (s.link l).out ((u.removeOut l OutMsg.isCorrection).link l).out

theorem OutMsg.isCorrection_waits {m : OutMsg} (h : m.isCorrection = true) : m.orphan = false := by
  rw [OutMsg.isCorrection, Bool.and_eq_true] at h
  simpa using h.1

theorem State.readyToDepart_self (s : State) (l : LinkId) : s.ReadyToDepart s l where
  others := fun _ _ => rfl
  rest := rfl
  onlyHead := s.removeOut_onlyHead l _ fun _ => OutMsg.isCorrection_waits

theorem State.endLinkFailed_link (s : State) (e : EngineId) (w : Sweep) (m : LinkId) :
    (s.endLinkFailed e w).link m = (s.stopEngine e w).link m := by
  simp [State.endLinkFailed]

theorem State.readyToDepart_endLinkFailed (s : State) (e : EngineId) (w : Sweep) :
    s.ReadyToDepart (s.endLinkFailed e w) w.key.link where
  others := fun m other => (s.endLinkFailed_link e w m).trans (s.stopEngine_link_other e w other)
  rest := by
    rw [State.endLinkFailed_link]
    exact s.stopEngine_link_rest e w
  onlyHead := State.removeOut_onlyHead_twice (fun _ => OutMsg.isCalRequest_waits) (fun _ => OutMsg.isCorrection_waits)
    (by rw [State.endLinkFailed_link, State.stopEngine_out]) (by simp [State.endLinkFailed, State.stopEngine])

section
variable (s : State) (l : LinkId) (reason : LinkReason)

theorem State.departUp_link_self :
    (s.departUp l reason).link l =
      { (s.removeOut l OutMsg.isCorrection).link l with
        state := .down
        awaited := none
        tags := []
        out := ((s.removeOut l OutMsg.isCorrection).link l).out ++ [{ body := .hello l, orphan := false }]
        hello := some Config.helloPeriod
        refusalReported := false } := by
  simp [State.departUp, State.enterDown]

theorem State.departUp_link_other {m : LinkId} (h : m ≠ l) : (s.departUp l reason).link m = s.link m := by
  simp [State.departUp, State.enterDown, State.withLink_link_ne, h, State.removeOut_link_other]

theorem State.departUp_host :
    (s.departUp l reason).host = s.host.emitted s.params.noticeMask [departureNotice l (s.link l) reason] := by
  have rest := s.removeOut_link_rest l OutMsg.isCorrection
  have notice : departureNotice l (s.link l) reason = departureNotice l ((s.removeOut l OutMsg.isCorrection).link l) reason := by
    rw [← rest]
    rfl
  rw [notice]
  simp [State.departUp, State.emit_host, departureNotice]

end

theorem State.sweepsOn_iff {s : State} {e : EngineId} {l : LinkId} :
    s.sweepsOn e l = true ↔ ∃ w, s.sweep e = some w ∧ w.key.link = l := by
  rw [State.sweepsOn]
  cases s.sweep e <;> simp

theorem State.sweepingEngine_sweepsOn {s : State} {e : EngineId} {l : LinkId} (h : s.sweepingEngine l = some e) :
    s.sweepsOn e l = true := by
  rw [State.sweepingEngine] at h
  split at h
  next on => exact Option.some.inj h ▸ on
  next =>
    split at h
    next on => exact Option.some.inj h ▸ on
    next => cases h

/-- At most one engine sweeps on a link. -/
theorem State.sweepingEngine_of_sweep {s : State} (ok : s.SweepsOk) {e : EngineId} {w : Sweep} (run : s.sweep e = some w) :
    s.sweepingEngine w.key.link = some e := by
  have on : s.sweepsOn e w.key.link = true := State.sweepsOn_iff.2 ⟨w, run, rfl⟩
  cases e with
  | se0 => simp [State.sweepingEngine, on]
  | se1 =>
    have off : s.sweepsOn .se0 w.key.link = false := by
      rw [← Bool.not_eq_true, State.sweepsOn_iff]
      rintro ⟨v, runs, same⟩
      exact ok.2.1 v runs w run same
    simp [State.sweepingEngine, on, off]

/-- The state in which a link leaves UP: its sweep, if one ran, has ended FAILED(LINK). -/
def State.sweepEnded (s : State) (l : LinkId) : State :=
  match s.sweepingEngine l with
  | some e =>
    match s.sweep e with
    | some w => s.endLinkFailed e w
    | none => s
  | none => s

theorem State.leaveUp_eq (s : State) (l : LinkId) (reason : LinkReason) :
    s.leaveUp l reason = ((s.sweepEnded l).departUp l reason).nextDraw := rfl

section
variable {s : State} {l : LinkId}

theorem State.sweepEnded_quiet (quiet : s.sweepingEngine l = none) : s.sweepEnded l = s := by
  simp [State.sweepEnded, quiet]

theorem State.sweepEnded_sweeping {e : EngineId} {w : Sweep} (on : s.sweepingEngine l = some e) (run : s.sweep e = some w) :
    s.sweepEnded l = s.endLinkFailed e w := by
  simp [State.sweepEnded, on, run]

theorem State.readyToDepart_sweepEnded (s : State) (l : LinkId) : s.ReadyToDepart (s.sweepEnded l) l := by
  cases on : s.sweepingEngine l with
  | none =>
    rw [State.sweepEnded_quiet on]
    exact s.readyToDepart_self l
  | some e =>
    obtain ⟨w, run, rfl⟩ := State.sweepsOn_iff.1 (State.sweepingEngine_sweepsOn on)
    rw [State.sweepEnded_sweeping on run]
    exact s.readyToDepart_endLinkFailed e w

end

theorem onlyHeadFinishes_append {before after : List OutMsg} (h : OnlyHeadFinishes before after) {m : OutMsg}
    (waits : m.orphan = false) : OnlyHeadFinishes before (after ++ [m]) := by
  intro x hx finishes
  rcases List.mem_append.1 hx with stood | joined
  · exact h x stood finishes
  · rw [List.mem_singleton.1 joined, waits] at finishes
    cases finishes

theorem OutMsg.waitingCorrection_of_unmet {m : OutMsg} (h : m.orphan = false → m.isCorrection = false) :
    m.waitingCorrection = false := by
  cases waits : m.orphan with
  | true => simp [OutMsg.waitingCorrection, waits]
  | false => exact h waits

theorem OutMsg.waitingCal_of_unmet {m : OutMsg} (h : m.orphan = false → m.isCalRequest = false) : m.waitingCal = false := by
  cases waits : m.orphan with
  | true => simp [OutMsg.waitingCal, waits]
  | false => exact h waits

/-- What a departure keeps of a link (R155). -/
theorem Link.rest_of_departure {before ended removed : Link}
    (sweepEnd : { ended with awaited := before.awaited, out := before.out } = before)
    (removal : { removed with out := ended.out } = ended) :
    { removed with
      state := before.state, awaited := before.awaited, tags := before.tags, out := before.out, hello := before.hello,
      refusalReported := before.refusalReported } = before := by
  cases before
  cases ended
  cases removed
  simp_all

theorem State.ReadyToDepart.notice {s u : State} {l : LinkId} (ready : s.ReadyToDepart u l) (reason : LinkReason) :
    departureNotice l (u.link l) reason = departureNotice l (s.link l) reason := by
  rw [← ready.rest]
  rfl

/-- What a sweep's end FAILED(LINK) changes apart from its link: the engine, the record's standing and the queue, the notice. -/
theorem State.endLinkFailed_host (s : State) (e : EngineId) (w : Sweep) :
    (s.endLinkFailed e w).host = s.host.emitted s.params.noticeMask [w.endNotice e (.failed .link) false] := by
  simp [State.endLinkFailed, State.emit_host]

theorem State.endLinkFailed_considerDue (s : State) (e : EngineId) (w : Sweep) : (s.endLinkFailed e w).considerDue = true := by
  have due : ((s.stopEngine e w).setStanding w.slot (.waiting w.cause)).considerDue = true := by simp [State.stopEngine]
  simpa [State.endLinkFailed, State.waitAndOffer] using State.offer_considerDue due w.slot w.key w.cause

theorem State.endLinkFailed_sweep (s : State) (e f : EngineId) (w : Sweep) :
    (s.endLinkFailed e w).sweep f = if f = e then none else s.sweep f := by
  simp [State.endLinkFailed]

/-- The offer of a place at once decides as it would on the state before the stop. -/
theorem State.endLinkFailed_offer (s : State) (e : EngineId) (w : Sweep) :
    (s.endLinkFailed e w).table = ((s.setStanding w.slot (.waiting w.cause)).offer w.slot w.key w.cause).1.table
      ∧ (s.endLinkFailed e w).queue = ((s.setStanding w.slot (.waiting w.cause)).offer w.slot w.key w.cause).1.queue := by
  have state := congrArg Link.state (s.stopEngine_link_rest e w)
  obtain ⟨table, queue, -, -⟩ := State.offer_congr (s := s.setStanding w.slot (.waiting w.cause))
    (t := (s.stopEngine e w).setStanding w.slot (.waiting w.cause)) w.slot (key := w.key) w.cause
    (by simp [State.setStanding]) (by simp) (by simpa using state)
  simpa [State.endLinkFailed, State.waitAndOffer] using ⟨table, queue⟩

/-- Settles O58: the link departs from the state in which its sweep has ended, and both removals of the claim read one free value. -/
theorem linkLeavesUpForDown : Obligations.LinkLeavesUpForDown := by
  refine ⟨fun s l reason => ?_, fun s l running => ⟨fun up => ?_, fun down => ?_, fun off => ?_⟩⟩
  · intro t change
    have ready := s.readyToDepart_sweepEnded l
    have link : t.link l = _ := (s.sweepEnded l).departUp_link_self l reason
    rw [link]
    refine ⟨rfl, rfl, rfl, rfl, rfl, List.getLast?_concat, ?corrections, onlyHeadFinishes_append ready.onlyHead rfl,
      Link.rest_of_departure (removed := ((s.sweepEnded l).removeOut l OutMsg.isCorrection).link l) ready.rest
        ((s.sweepEnded l).removeOut_link_rest l _),
      fun m other => ((s.sweepEnded l).departUp_link_other l reason other).trans (ready.others m other),
      fun no₀ no₁ => ?quiet, fun e w ok run on => ?swept⟩
    case corrections =>
      intro m hm
      rcases List.mem_append.1 hm with stood | joined
      · exact OutMsg.waitingCorrection_of_unmet ((s.sweepEnded l).removeOut_out_unmet l _ m stood)
      · rw [List.mem_singleton.1 joined]
        rfl
    case quiet =>
      have ended : s.sweepEnded l = s := State.sweepEnded_quiet (by simp [State.sweepingEngine, no₀, no₁])
      have departed : t = (s.departUp l reason).nextDraw := by rw [← ended]; exact s.leaveUp_eq l reason
      rw [departed]
      exact ⟨s.departUp_host l reason, by apply State.eq_of_fields <;> simp⟩
    case swept =>
      subst on
      have ended : s.sweepEnded w.key.link = s.endLinkFailed e w :=
        State.sweepEnded_sweeping (State.sweepingEngine_of_sweep ok run) run
      have departed : t = ((s.endLinkFailed e w).departUp w.key.link reason).nextDraw := ended ▸ s.leaveUp_eq w.key.link reason
      rw [departed, ended]
      refine ⟨?idle, ?other, ?due, ?notices, ?requests, ?frame, s.setStanding w.slot (.waiting w.cause), fun m => ?standing, rfl,
        ?offer⟩
      case idle => simp [State.endLinkFailed_sweep]
      case other => simp [State.endLinkFailed_sweep, otherEngine_ne]
      case due => simp [State.endLinkFailed_considerDue]
      case notices =>
        rw [State.nextDraw_host, State.departUp_host, State.endLinkFailed_host,
          (s.readyToDepart_endLinkFailed e w).notice]
        simp [HostPort.emitted_emitted, Sweep.endNotice, departureNotice, change]
      case requests =>
        intro m hm
        rcases List.mem_append.1 hm with stood | joined
        · refine OutMsg.waitingCal_of_unmet fun waits => ?_
          have stayed := (s.endLinkFailed e w).removeOut_out_mem w.key.link _ m stood waits
          rw [State.endLinkFailed_link, State.stopEngine_out] at stayed
          exact s.removeOut_out_unmet w.key.link _ m stayed waits
        · rw [List.mem_singleton.1 joined]
          rfl
      case frame => apply State.eq_of_fields <;> simp
      case standing => exact Table.differsAt_modify_map s.table w.slot (fun r => { r with standing := .waiting w.cause }) m
      case offer => simpa using s.endLinkFailed_offer e w
  · exact (whileRunning_of_high running).trans (congrArg _ (State.arrive_up up _))
  · exact (whileRunning_of_high running).trans (congrArg _ (State.arrive_down down _))
  · exact (whileRunning_of_high running).trans (congrArg _ (State.arrive_off off _))

end Sys2Proof.Machine
end

section
/-! The markings of a drift alert and of the invalidate option (O38). -/

namespace Sys2Proof.Machine

/-! ## Markings read nothing of the Host Port -/

theorem State.mark_withHost (s : State) (h : HostPort) (m : Marker) (slot : Nat) (r : Record) :
    (s.withHost h).mark m slot r = ((s.mark m slot r).1.withHost h, (s.mark m slot r).2) := by
  cases standing : r.standing with
  | idle => rw [State.mark_idle standing, State.mark_idle standing, State.waitAndOffer_withHost]
  | waiting c => rw [State.mark_waiting standing, State.mark_waiting standing, State.waitAndOffer_withHost]
  | queued c =>
    rw [State.mark_queued standing, State.mark_queued standing]
    by_cases first : c.isPriority = true
    · rw [if_pos first, if_pos first]
    · rw [if_neg first, if_neg first]
      rfl
  | retry n =>
    cases m with
    | host => rw [State.mark_retry_host standing, State.mark_retry_host standing, State.waitAndOffer_withHost]
    | alert => rw [State.mark_retry_alert standing, State.mark_retry_alert standing]
  | sweeping e => rw [State.mark_sweeping standing, State.mark_sweeping standing]

theorem State.markAlert_withHost (s : State) (h : HostPort) (slot : Nat) (r : Record) :
    (s.withHost h).markAlert slot r = ((s.markAlert slot r).1.withHost h, (s.markAlert slot r).2) := by
  rw [State.markAlert_eq, State.markAlert_eq]
  exact State.mark_withHost (s.modRecord slot (·.alerted s.params.baseInterval)) h .alert slot r

section
variable {s : State} {mark : State → Nat → Record → State × Option RefreshAction} {slot : Nat} {rest : List Nat}

theorem State.markPass_absent (absent : Table.get s.table slot = none) : s.markPass mark (slot :: rest) = s.markPass mark rest := by
  rw [State.markPass, absent]

theorem State.markPass_found {r : Record} (found : Table.get s.table slot = some r) :
    s.markPass mark (slot :: rest) =
      (((mark s slot r).1.markPass mark rest).1, (mark s slot r).2 :: ((mark s slot r).1.markPass mark rest).2) := by
  rw [State.markPass, found]

end

theorem State.markPass_withHost (s : State) (h : HostPort) (slots : List Nat) :
    (s.withHost h).markPass State.markAlert slots =
      ((s.markPass State.markAlert slots).1.withHost h, (s.markPass State.markAlert slots).2) := by
  induction slots generalizing s with
  | nil => rfl
  | cons slot rest ih =>
    cases found : Table.get s.table slot with
    | none => rw [State.markPass_absent found, State.markPass_absent (s := s.withHost h) found, ih]
    | some r => rw [State.markPass_found found, State.markPass_found (s := s.withHost h) found, State.markAlert_withHost, ih]

/-! ## What a marking pass changes of a record -/

theorem State.markAlert_get {s : State} {m : Nat} {r : Record} (found : Table.get s.table m = some r) (slot : Nat) (x : Record) :
    ∃ st, Table.get (s.markAlert slot x).1.table m =
      some { (if m = slot then r.alerted s.params.baseInterval else r) with standing := st } := by
  obtain ⟨st, same⟩ := State.mark_sameButStandings (s.modRecord slot (·.alerted s.params.baseInterval)) .alert slot x m
  refine ⟨st, ?_⟩
  rw [State.markAlert_eq, same, State.modRecord_table, Table.get_modify, found]
  split <;> rfl

/-- A pass over distinct slots alerts each record that they name once, and changes nothing of the others but their standings. -/
theorem State.markPass_get {slots : List Nat} (distinct : slots.Nodup) {s : State} {m : Nat} {r : Record}
    (found : Table.get s.table m = some r) :
    ∃ st, Table.get (s.markPass State.markAlert slots).1.table m =
      some { (if m ∈ slots then r.alerted s.params.baseInterval else r) with standing := st } := by
  induction slots generalizing s r with
  | nil => exact ⟨r.standing, found⟩
  | cons slot rest ih =>
    obtain ⟨fresh, distinct⟩ := List.nodup_cons.1 distinct
    cases here : Table.get s.table slot with
    | none =>
      have other : m ≠ slot := by
        rintro rfl
        simp [here] at found
      rw [State.markPass_absent here]
      simpa [other] using ih distinct found
    | some x =>
      obtain ⟨st₁, marked⟩ := State.markAlert_get found slot x
      obtain ⟨st, done⟩ := ih distinct marked
      refine ⟨st, ?_⟩
      rw [State.markPass_found here, done]
      by_cases hm : m = slot
      · subst hm
        simp [fresh]
      · by_cases later : m ∈ rest <;> simp [hm, later, Record.alerted]

/-! ## The pass's counts, and the fields of a TONE_PLAN_SET -/

theorem countActions_leftWaiting (actions : List (Option RefreshAction)) :
    countActions RefreshAction.leftWaiting actions = actions.count (some .failed) + actions.count (some .held) := by
  induction actions with
  | nil => rfl
  | cons a rest ih =>
    rw [countActions, List.countP_cons, ← countActions, ih, List.count_cons, List.count_cons]
    obtain _ | a := a
    · simp
    · cases a <;> simp [RefreshAction.leftWaiting] <;> omega

theorem RecState.serves_eq (st : RecState) : st.serves = (st == .valid || st == .due || st == .suspect) := by cases st <;> rfl

theorem planAt?_body (id : Byte) (tone : Fin 6) {p : TonePlan} (range : p.InRange) (invalidate : Bool) :
    planAt? (tonePlanBody id tone p invalidate) = some p := by
  obtain ⟨init, low, high, few, many⟩ := range
  have at₂ : wordAt (tonePlanBody id tone p invalidate) 2 = p.phaseInit := bytes2_read (by omega)
  have at₄ : wordAt (tonePlanBody id tone p invalidate) 4 = p.phaseStep := bytes2_read (by omega)
  have at₆ : (byteAt (tonePlanBody id tone p invalidate) 6).toNat = p.pointCount := by
    rw [show byteAt (tonePlanBody id tone p invalidate) 6 = byte p.pointCount from rfl, byte_toNat]
    omega
  have at₇ : switchOf? (byteAt (tonePlanBody id tone p invalidate) 7) = some p.capture := switchOf?_code p.capture
  simp only [planAt?, at₂, at₄, at₆, at₇]
  exact if_neg (by omega)

/-- The state with the plan of a tone written (R190). -/
def State.withPlan (s : State) (tone : Fin 6) (p : TonePlan) : State :=
  s.withStore { s.store with plans := s.store.plans.set tone p }

theorem actTonePlanSet_body (s : State) (id : Byte) (tone : Fin 6) {p : TonePlan} (range : p.InRange) :
    actTonePlanSet (tonePlanBody id tone p true) s =
      let pass := (s.withPlan tone p).markPass State.markAlert (Table.slotsWhere s.table (invalidated tone))
      pass.1.accept (byte tone.val :: (bytes2 pass.2.length ++ bytes2 (countActions RefreshAction.leftWaiting pass.2))) := by
  have at₁ : finOf? 6 (byteAt (tonePlanBody id tone p true) 1).toNat = some tone := by
    rw [finOf?_some, show byteAt (tonePlanBody id tone p true) 1 = byte tone.val from rfl, byte_toNat]
    omega
  have at₈ : switchOf? (byteAt (tonePlanBody id tone p true) 8) = some true := switchOf?_code true
  rw [actTonePlanSet, at₁, planAt?_body id tone range true, at₈]
  rfl

/-- Settles O38: a marking moves standings alone and reads nothing of the Host Port, so a pass alerts the records of its slots once each
and the request is answered from the state after it. -/
theorem alertsMarkServedRecords : Obligations.AlertsMarkServedRecords := by
  refine ⟨fun s slot r => ?marking, fun s slots _ distinct m r found => ?pass, fun s l channels tones running up => ?alert,
    fun s id tone p range takes => ?plan⟩
  case marking =>
    exact ⟨s.modRecord slot (·.alerted s.params.baseInterval),
      Table.differsAt_modify_map s.table slot (·.alerted s.params.baseInterval), rfl, s.markAlert_eq slot r⟩
  case pass =>
    obtain ⟨st, done⟩ := State.markPass_get distinct found
    refine ⟨st, done.trans (congrArg some ?_)⟩
    split <;> rfl
  case alert =>
    have alerted : exec (.driftAlert l channels tones) s = .next ((s.receivedOn l 0x15#8 [channels, tones]).driftAlert l channels tones) :=
      (whileRunning_of_high running).trans (congrArg _ (State.arrive_up up _))
    rw [alerted, State.driftAlert]
    simp only [Table.slotsWhere, drifts, names, RecState.serves_eq]
    rfl
  case plan =>
    intro written pass
    have slots : Table.slotsWhere s.table (invalidated tone) =
        (s.table.filter fun e =>
          e.2.key.tone == tone && e.2.policy == .auto
            && (e.2.state == .valid || e.2.state == .due || e.2.state == .suspect)).map (·.1) := by
      simp only [Table.slotsWhere, invalidated, RecState.serves_eq]
    have answered := State.whileRunning_takes_quiet (kind := kindTonePlanSet) (act := actTonePlanSet) (t := pass.1) (status := .ok)
      (payload := byte tone.val :: (bytes2 pass.2.length ++ bytes2 (pass.2.count (some .failed) + pass.2.count (some .held))))
      takes fun host => by
        have commutes := State.markPass_withHost written host (Table.slotsWhere s.table (invalidated tone))
        rw [slots] at commutes
        rw [actTonePlanSet_body _ id tone range, ← countActions_leftWaiting, State.withHost_table, slots,
          show (s.withHost host).withPlan tone p = written.withHost host from rfl, commutes]
        rfl
    exact answered

end Sys2Proof.Machine
end

section
/-! Automatic creation by a LOOKUP (O57). -/

namespace Sys2Proof.Machine

/-! ## The eviction candidate (R31) -/

theorem Record.evictable_iff {r : Record} :
    r.evictable = true ↔ r.policy = .auto ∧ r.pin = false ∧ ∀ i, r.standing ≠ .sweeping i := by
  cases h : r.standing <;> simp [Record.evictable, Standing.isSweeping, h]

/-- In a table in order the candidate is the evictable record of smallest stamp, of lowest slot among these. -/
theorem Table.evictionCandidate_of_least {t : Table} (order : t.Pairwise fun a b => a.1 < b.1) {c : Nat × Record} (hc : c ∈ t)
    (evictable : c.2.evictable = true)
    (least : ∀ e ∈ t, e.2.evictable = true → c.2.lastUse < e.2.lastUse ∨ (c.2.lastUse = e.2.lastUse ∧ c.1 ≤ e.1)) :
    Table.evictionCandidate t = some c := by
  induction t with
  | nil => cases hc
  | cons e rest ih =>
    obtain ⟨later, order⟩ := List.pairwise_cons.1 order
    rw [List.forall_mem_cons] at least
    rw [Table.evictionCandidate]
    rcases List.mem_cons.1 hc with rfl | hc
    · rw [if_pos evictable]
      split
      next d found =>
        obtain ⟨hd, evictable'⟩ := Table.evictionCandidate_some found
        have := least.2 d hd evictable'
        rw [if_neg (by omega)]
      next => rfl
    · rw [ih order hc least.2]
      split
      next evictable' =>
        have := least.1 evictable'
        have := later c hc
        exact if_pos (by omega)
      next => rfl

theorem Table.evictionCandidate_none {t : Table} (none' : ∀ e ∈ t, ¬e.2.evictable = true) : Table.evictionCandidate t = none := by
  cases found : Table.evictionCandidate t with
  | none => rfl
  | some c =>
    obtain ⟨hc, evictable⟩ := Table.evictionCandidate_some found
    exact absurd evictable (none' c hc)

/-! ## The entry that matches a key (R124) -/

theorem AliasEntry.matchesKey_iff {a : AliasEntry} {key : Key} : a.matchesKey key = true ↔ a.Matching key := by
  simp [AliasEntry.matchesKey, and_assoc]

/-- What one entry of the Alias Table answers to a key. -/
def matchedEntry (key : Key) (e : Option AliasEntry) : Option AliasEntry :=
  match e with
  | some a => if a.matchesKey key then some a else none
  | none => none

theorem matchedEntry_none {key : Key} {e : Option AliasEntry} (h : ∀ a, e = some a → ¬a.Matching key) : matchedEntry key e = none := by
  cases e with
  | none => rfl
  | some a => exact if_neg fun matching => h a rfl (AliasEntry.matchesKey_iff.1 matching)

theorem matchedEntry_some {key : Key} {a : AliasEntry} (h : a.Matching key) : matchedEntry key (some a) = some a :=
  if_pos (AliasEntry.matchesKey_iff.2 h)

section
variable {s : State} {key : Key}

theorem State.aliasFor_eq : s.aliasFor key = s.aliases.toList.findSome? (matchedEntry key) := rfl

theorem State.aliasFor_none (h : s.Unaliased key) : s.aliasFor key = none := by
  rw [State.aliasFor_eq, List.findSome?_eq_none_iff]
  intro e he
  obtain ⟨i, hi, rfl⟩ := List.getElem_of_mem he
  exact matchedEntry_none (h ⟨i, by simpa using hi⟩)

theorem State.aliasFor_some {a : AliasEntry} (h : s.FirstMatch key a) : s.aliasFor key = some a := by
  obtain ⟨i, entry, matching, before⟩ := h
  have inside : i.val < s.aliases.toList.length := by simp
  rw [State.aliasFor_eq, List.findSome?_eq_some_iff]
  refine ⟨s.aliases.toList.take i, some a, s.aliases.toList.drop (i + 1), ?_, matchedEntry_some matching, fun e he => ?_⟩
  · have parts := List.take_append_drop i.val s.aliases.toList
    rw [List.drop_eq_getElem_cons inside] at parts
    rw [← entry]
    simpa using parts.symm
  · obtain ⟨j, hj, rfl⟩ := List.mem_take_iff_getElem.1 he
    exact matchedEntry_none (before ⟨j, by omega⟩ (by simp [Fin.lt_def]; omega))

theorem servable_none (h : s.NotServing key) : servable (Table.findKey s.table key) = none := by
  rcases h with lacks | ⟨slot, r, holds, idle⟩
  · rw [State.findKey_of_lacks lacks]
    rfl
  · rw [State.findKey_of_holds holds]
    refine if_neg fun serves => idle ?_
    simpa [RecState.serves_eq, or_assoc] using serves

end

/-! ## The answer of a lookup that creates -/

theorem State.converts_of_partner {s : State} {key : Key} {p : Partner} (partner : (s.link key.link).partner = some p)
    (channel : key.channel.val < p.channels.toNat) (tone : p.toneMask.getLsbD key.tone.val = true) : s.converts key = true := by
  simp [State.converts, partner, Partner.converts, channel, names, tone]

/-- The lookup of an absent key that no entry answers for comes to the automatic creation (R125-R128). -/
theorem State.answerLookup_creates {s : State} {key : Key} {tag : Fin 4} (converts : s.converts key = true)
    (unanswered : s.Unaliased key
      ∨ ∃ a, s.FirstMatch key a ∧ a.mode = .fallback ∧ s.NotServing { key with link := a.targetLink, channel := a.targetChannel })
    (lacks : s.Lacks key) (enabled : s.params.autocreateMask.testBit key.link.val = true) :
    s.answerLookup key.link tag (byte key.channel.val) (byte key.tone.val) (byte key.gain.val) = s.autoCreate tag key := by
  have own : s.answerOwn tag key = s.autoCreate tag key := by
    simp [State.answerOwn, State.findKey_of_lacks lacks, namesWide, enabled]
  have key' : keyOf? key.link.val (byte key.channel.val).toNat (byte key.tone.val).toNat (byte key.gain.val).toNat = some key := by
    refine keyOf?_some.2 ⟨rfl, ?_, ?_, ?_⟩ <;> rw [byte_toNat] <;> omega
  rw [State.answerLookup, key', ← own]
  show State.answerKey s tag key = _
  rw [State.answerKey, if_pos converts]
  obtain free | ⟨a, matched, fallback, idle⟩ := unanswered
  · rw [State.aliasFor_none free]
  · rw [State.aliasFor_some matched]
    show State.answerAliased s tag key a = _
    rw [State.answerAliased, fallback, servable_none (.inl lacks),
      show servable (Table.findKey s.table (a.target key)) = none from servable_none idle]

theorem State.withLink_withLink (s : State) (l : LinkId) (a b : Link) : (s.withLink l a).withLink l b = s.withLink l b := by
  simp [State.withLink, State.withLinks]

/-- A link once a lookup's tag is outstanding (R148). -/
def Link.tagged (lk : Link) (tag : Fin 4) : Link := { lk with tags := lk.tags ++ [tag] }

/-- The state in which a lookup that was handed over is answered (R118). -/
def State.withTag (s : State) (l : LinkId) (tag : Fin 4) : State := s.withLink l ((s.link l).tagged tag)

/-- A LOOKUP whose answer leaves the link as the tag left it (R118). -/
theorem State.handOver_answered {s t : State} {l : LinkId} {tag : Fin 4} {channel tone gain : Byte} {c : Correction}
    (answer : (s.withTag l tag).answerLookup l tag channel tone gain = (t.withLink l ((s.link l).tagged tag), c)) :
    s.handOver l tag channel tone gain =
      t.withLink l
        { s.link l with
          tags := (s.link l).tags ++ [tag]
          out := (s.link l).out ++ [{ body := .correction c, orphan := false }] } := by
  rw [State.handOver, show s.withLink l { s.link l with tags := (s.link l).tags ++ [tag] } = s.withTag l tag from rfl, answer]
  simp [State.withLink_withLink, Link.tagged]

/-- The creation of a record that seeks its FIRST join reads nothing of a link but its state. -/
theorem State.createRecord_first (s : State) (n : Nat) {r : Record} (seeks : r.standing = .waiting .first) (l : LinkId) {v : Link}
    (state : v.state = (s.link l).state) :
    (s.withLink l v).createRecord n r = (((s.withTable (Table.put s.table n r)).offer n r.key .first).1).withLink l v := by
  rw [State.createRecord, seeks]
  exact congrArg Prod.fst (State.offer_withLink (s.withTable (Table.put s.table n r)) l state n r.key .first)

theorem State.evict_withLink (s : State) (l : LinkId) (v : Link) (n : Nat) (r : Record) (key : Key) :
    (s.withLink l v).evict n r key = (s.evict n r key).withLink l v := by
  rw [State.evict, State.evict, State.emit_eq, State.emit_eq]
  rfl

/-- A LOOKUP with a free tag on an UP link is handed over (R118, R148). -/
theorem exec_lookup {s : State} {l : LinkId} {tag : Fin 4} (running : s.rstN = true) (up : (s.link l).state = .up)
    (free : tag ∉ (s.link l).tags) (channel tone gain : Byte) :
    exec (.lookup l (byte tag.val) channel tone gain) s =
      .next ((s.receivedOn l 0x12#8 [byte tag.val, channel, tone, gain]).handOver l tag channel tone gain) := by
  refine (whileRunning_of_high running).trans (congrArg _ ((State.arrive_up up _).trans ?_))
  have valid : finOf? 4 (byte tag.val).toNat = some tag := by
    rw [finOf?_some, byte_toNat]
    omega
  show State.lookup (s.receivedOn l 0x12#8 [byte tag.val, channel, tone, gain]) l _ _ _ _ = _
  rw [State.lookup, valid]
  exact if_neg (by simpa [State.receivedOn] using free)

/-! ## The automatic creation behind a tag (R30, R31, R128) -/

section
variable {s : State} {key : Key} {tag : Fin 4} {n : Nat}

theorem State.autoCreate_withTag_free (lowest : s.LowestFree n) :
    (s.withTag key.link tag).autoCreate tag key =
      ((((s.withTable (Table.put s.table n (s.autoRecord key))).offer n key .first).1).withLink key.link
          ((s.link key.link).tagged tag),
        recordAnswer tag (s.autoRecord key) false true) := by
  rw [State.autoCreate_free (s := s.withTag key.link tag) (State.lowestFree_some.2 lowest)]
  exact congrArg (·, _) (State.createRecord_first s n (r := s.autoRecord key) rfl key.link rfl)

theorem State.autoCreate_withTag_evict {r : Record} (full : ∀ m < 512, Table.get s.table m ≠ none)
    (found : Table.evictionCandidate s.table = some (n, r)) :
    (s.withTag key.link tag).autoCreate tag key =
      (((((s.evict n r key).withTable (Table.put (s.evict n r key).table n (s.autoRecord key))).offer n key .first).1).withLink
          key.link ((s.link key.link).tagged tag),
        recordAnswer tag (s.autoRecord key) false true) := by
  rw [State.autoCreate_evict (s := s.withTag key.link tag) (Table.lowestFree_none.2 full) found, State.withTag,
    State.evict_withLink]
  exact congrArg (·, _)
    (State.createRecord_first (s.evict n r key) n (r := s.autoRecord key) rfl key.link (by simp [Link.tagged]))

theorem State.autoCreate_withTag_miss (full : ∀ m < 512, Table.get s.table m ≠ none)
    (none' : Table.evictionCandidate s.table = none) :
    (s.withTag key.link tag).autoCreate tag key =
      (s.withLink key.link ((s.link key.link).tagged tag), noRecordAnswer tag .miss false) :=
  State.autoCreate_miss (s := s.withTag key.link tag) (Table.lowestFree_none.2 full) none'

end

theorem Table.differsAt_put_erase (t : Table) (n : Nat) (r : Record) :
    Table.DiffersAt t (Table.put (Table.erase t n) n r) n (some r) := by
  intro m
  rw [Table.get_put, Table.get_erase]
  split <;> rfl

/-- Settles O57: the automatic creation reads nothing of the link but its state, so it is that of the state in which the frame arrived. -/
theorem lookupCreatesAndEvicts : Obligations.LookupCreatesAndEvicts := by
  intro s key tag p running ok up free partner channel tone unanswered lacks enabled fresh u sent result candidate
  have arrived : u.link key.link = _ := State.receivedOn_link_self key.link
  have converts : (u.withTag key.link tag).converts key = true :=
    State.converts_of_partner (p := p) (by simp [State.withTag, Link.tagged, arrived, partner]) channel tone
  have handed (t : State) (status : LookupStatus) (created : Bool)
      (answer : (u.withTag key.link tag).autoCreate tag key =
        (t.withLink key.link ((u.link key.link).tagged tag),
          { tag := tag, status := status, aliased := false, created := created, generation := 0, values := none })) :
      result (t.withLink key.link (sent status created)) := by
    have looked := (State.answerLookup_creates converts unanswered lacks enabled).trans answer
    refine (exec_lookup running up free _ _ _).trans (congrArg _ ((State.handOver_answered looked).trans ?_))
    simp only [sent, arrived]
  refine ⟨fun n lowest => ?free, fun full => ⟨fun n r hr old least => ?evict, fun none' => ?miss⟩⟩
  case free =>
    exact ⟨u.withTable (Table.put s.table n fresh), fun m => Table.get_put s.table n m fresh, rfl,
      handed _ _ _ (State.autoCreate_withTag_free lowest)⟩
  case evict =>
    have found : Table.evictionCandidate s.table = some (n, r) :=
      Table.evictionCandidate_of_least ok.1 hr (Record.evictable_iff.2 old) fun e he evictable =>
        least e he (Record.evictable_iff.1 evictable)
    refine ⟨(u.evict n r key).withTable (Table.put (u.evict n r key).table n fresh), ?differs, ?pool, ?queue, ?notice, ?frame,
      handed _ _ _ (State.autoCreate_withTag_evict full found)⟩
    case differs => simpa [State.evict, State.removeRecord, u, State.receivedOn] using Table.differsAt_put_erase s.table n fresh
    case pool => simp [State.evict, State.removeRecord, u, State.receivedOn]
    case queue => simp [State.evict, State.removeRecord, u, State.receivedOn, RefreshQueue.remove]
    case notice => simp [State.evict, State.removeRecord, u, State.receivedOn, State.emit_host]
    case frame => apply State.eq_of_fields <;> simp [u, State.receivedOn]
  case miss =>
    have found : Table.evictionCandidate s.table = none :=
      Table.evictionCandidate_none fun e he evictable => none' e he (Record.evictable_iff.1 evictable)
    exact handed u .miss false (State.autoCreate_withTag_miss full found)

end Sys2Proof.Machine
end

section
/-! Which operations leave the intervals of the records alone (R59): standings, ages, failures and stops move none. -/

namespace Sys2Proof.Machine

/-- The intervals of the records, in slot order. -/
def Table.intervals (t : Table) : List Nat := t.map fun e => e.2.interval

theorem Table.forall_intervals {t : Table} {p : Nat → Prop} : (∀ i ∈ t.intervals, p i) ↔ ∀ e ∈ t, p e.2.interval :=
  List.forall_mem_map

@[simp] theorem Table.intervals_modify (t : Table) (slot : Nat) {f : Record → Record}
    (keeps : ∀ r, (f r).interval = r.interval) : (Table.modify t slot f).intervals = t.intervals := by
  rw [Table.intervals, Table.modify, List.map_map]
  refine List.map_congr_left fun e _ => ?_
  by_cases h : e.1 = slot <;> simp [h, keeps]

/-! ## Standings and the queue -/

@[simp] theorem State.setStanding_intervals (s : State) (slot : Nat) (st : Standing) :
    (s.setStanding slot st).table.intervals = s.table.intervals := by
  simp [State.setStanding]

@[simp] theorem State.displace_intervals (s : State) : s.displace.table.intervals = s.table.intervals := by
  simp only [State.displace]
  split <;> simp

@[simp] theorem State.placeEntry_intervals (s : State) (e : QEntry) : (s.placeEntry e).table.intervals = s.table.intervals := by
  simp [State.placeEntry]

@[simp] theorem State.offer_intervals (s : State) (slot : Nat) (key : Key) (cause : Cause) :
    (s.offer slot key cause).1.table.intervals = s.table.intervals := by
  simp only [State.offer, State.join]
  (repeat' split) <;> simp

@[simp] theorem State.waitAndOffer_intervals (s : State) (slot : Nat) (key : Key) (cause : Cause) :
    (s.waitAndOffer slot key cause).1.table.intervals = s.table.intervals := by
  simp [State.waitAndOffer]

@[simp] theorem State.mark_intervals (s : State) (m : Marker) (slot : Nat) (r : Record) :
    (s.mark m slot r).1.table.intervals = s.table.intervals := by
  obtain e | ⟨c, -, e⟩ | ⟨-, c, e⟩ := s.mark_cases m slot r <;> simp [e, State.promote]

@[simp] theorem State.offerPass_intervals (s : State) (slots : List Nat) :
    (s.offerPass slots).table.intervals = s.table.intervals := by
  induction slots generalizing s with
  | nil => rfl
  | cons slot rest ih =>
    simp only [State.offerPass]
    (repeat' split) <;> simp [ih]

@[simp] theorem State.offerDispatch_intervals (s : State) (e : EngineId) :
    (s.offerDispatch e).table.intervals = s.table.intervals := by
  simp only [State.offerDispatch]
  (repeat' split) <;> simp [State.dispatchEntry]

@[simp] theorem State.consider_intervals (s : State) : s.consider.table.intervals = s.table.intervals := by
  simp [State.consider]

@[simp] theorem State.waitAll_intervals (s : State) (entries : List QEntry) :
    (s.waitAll entries).table.intervals = s.table.intervals := by
  induction entries generalizing s with
  | nil => rfl
  | cons e rest ih => simp [State.waitAll, ih]

@[simp] theorem State.dropLinkEntries_intervals (s : State) (l : LinkId) :
    (s.dropLinkEntries l).table.intervals = s.table.intervals := by
  simp [State.dropLinkEntries]

/-! ## Sweeps that end without a commit, and links that leave UP -/

@[simp] theorem State.takeFailure_intervals (s : State) (slot : Nat) (r : Record) (reason : FailReason) :
    (s.takeFailure slot r reason).table.intervals = s.table.intervals := by
  simp only [State.takeFailure]
  (repeat' split) <;> simp

@[simp] theorem State.endFailed_intervals (s : State) (e : EngineId) (w : Sweep) (reason : FailReason) :
    (s.endFailed e w reason).table.intervals = s.table.intervals := by
  simp only [State.endFailed]
  split <;> simp

@[simp] theorem State.leaveUp_intervals (s : State) (l : LinkId) (reason : LinkReason) :
    (s.leaveUp l reason).table.intervals = s.table.intervals := by
  simp only [State.leaveUp]
  (repeat' split) <;> simp [State.endLinkFailed]

@[simp] theorem State.protocolFault_intervals (s : State) (l : LinkId) :
    (s.protocolFault l).table.intervals = s.table.intervals := by
  simp only [State.protocolFault]
  split <;> simp

@[simp] theorem State.requestTimeout_intervals (s : State) (e : EngineId) (w : Sweep) :
    (s.requestTimeout e w).table.intervals = s.table.intervals := by
  simp only [State.requestTimeout]
  (repeat' split) <;> simp

@[simp] theorem State.checkPartner_intervals (s : State) (e : EngineId) (w : Sweep) :
    (s.checkPartner e w).table.intervals = s.table.intervals := by
  simp only [State.checkPartner]
  split <;> simp

@[simp] theorem State.calDeclined_intervals (s : State) (l : LinkId) (number : Byte) :
    (s.calDeclined l number).table.intervals = s.table.intervals := by
  simp only [State.calDeclined, State.actOnDecline]
  (repeat' split) <;> simp

@[simp] theorem State.helloAck_intervals (s : State) (l : LinkId) (body : List Byte) :
    (s.helloAck l body).table.intervals = s.table.intervals := by
  simp only [State.helloAck]
  (repeat' split) <;> simp

@[simp] theorem State.abortForDisable_intervals (s : State) (l : LinkId) :
    (s.abortForDisable l).table.intervals = s.table.intervals := by
  simp only [State.abortForDisable]
  (repeat' split) <;> simp

@[simp] theorem State.disableLink_intervals (s : State) (l : LinkId) :
    (s.disableLink l).table.intervals = s.table.intervals := by
  simp only [State.disableLink]
  split <;> simp

@[simp] theorem State.enableLink_params (s : State) (l : LinkId) (v : Bool) : (s.enableLink l v).params = s.params := rfl

@[simp] theorem State.disableLink_params (s : State) (l : LinkId) : (s.disableLink l).params = s.params := by
  simp only [State.disableLink]
  split <;> simp

@[simp] theorem State.reenableLink_params (s : State) (l : LinkId) : (s.reenableLink l).params = s.params := by
  simp only [State.reenableLink]
  split <;> simp

/-! ## Epoch expiry and changes of policy -/

theorem Record.expired_interval (r : Record) (staleLimit : Nat) : (r.expired staleLimit).interval = r.interval := by
  simp only [Record.expired, Record.ageDriven]
  split <;> rfl

@[simp] theorem State.ageAll_intervals (s : State) : s.ageAll.table.intervals = s.table.intervals := by
  simp [State.ageAll, Table.intervals, Function.comp_def, Record.expired_interval]

@[simp] theorem State.offerWaiting_intervals (s : State) : s.offerWaiting.table.intervals = s.table.intervals := by
  simp [State.offerWaiting]

@[simp] theorem State.setPolicyClaim_intervals (s : State) (slot : Nat) (r : Record) (policy : Policy) (pin : Bool) :
    (s.setPolicyClaim slot r policy pin).table.intervals = s.table.intervals := by
  simp only [State.setPolicyClaim, State.makeAuto]
  (repeat' split) <;> simp [State.makeFixed]

@[simp] theorem State.refreshClaim_intervals (s : State) (slot : Nat) (r : Record) :
    (s.refreshClaim slot r).1.table.intervals = s.table.intervals := by
  simp only [State.refreshClaim]
  split <;> simp [Record.restarted]

end Sys2Proof.Machine
end

section
/-! The intervals stay within BASE_INTERVAL and INTERVAL_CAP (O7). Only a new record, a LOAD, an alert, a commit and CONFIG_SET give
a record another interval; each gives one within the bounds in force. -/

namespace Sys2Proof.Machine

/-! ## The cadence bounds -/

/-- The cadence parameters keep their relation, and intervals grow by a factor of 1 or more (R59, R60). -/
structure Params.CadenceOk (p : Params) : Prop where
  base : 1 ≤ p.baseInterval
  cap : p.baseInterval ≤ p.intervalCap
  stale : p.intervalCap < p.staleLimit
  limit : p.staleLimit ≤ 65535
  growth : 1 ≤ p.growth

/-- An interval lies within the cadence bounds. -/
def Params.Admits (p : Params) (i : Nat) : Prop := p.baseInterval ≤ i ∧ i ≤ p.intervalCap

theorem State.intervalsOk_iff {s : State} :
    s.IntervalsOk ↔ s.params.CadenceOk ∧ ∀ i ∈ s.table.intervals, s.params.Admits i := by
  rw [Table.forall_intervals]
  exact ⟨fun ⟨base, cap, stale, limit, growth, all⟩ => ⟨⟨base, cap, stale, limit, growth⟩, all⟩,
    fun ⟨⟨base, cap, stale, limit, growth⟩, all⟩ => ⟨base, cap, stale, limit, growth, all⟩⟩

theorem Params.CadenceOk.admits_base {p : Params} (ok : p.CadenceOk) : p.Admits p.baseInterval := ⟨le_rfl, ok.cap⟩

/-- A commit gives an interval within the bounds: it grows by a factor of 1 or more up to INTERVAL_CAP, stays, or is BASE_INTERVAL
(R58). -/
theorem Params.CadenceOk.admits_intervalAfter {p : Params} (ok : p.CadenceOk) {i : Nat} (h : p.Admits i) (agree : Bool)
    (streak : Nat) : p.Admits (intervalAfter p agree streak i) := by
  have grown : i ≤ i * p.growth := Nat.le_mul_of_pos_right i ok.growth
  obtain ⟨low, high⟩ := h
  simp only [intervalAfter]
  (repeat' split)
  · exact ⟨le_min (low.trans grown) ok.cap, min_le_right _ _⟩
  · exact ⟨low, high⟩
  · exact ok.admits_base

theorem Params.defaults_cadenceOk : Params.defaults.CadenceOk := by
  constructor <;> decide

@[simp] theorem State.withStore_params (s : State) (v : Store) : (s.withStore v).params = v.params := rfl

theorem State.softResetTable_table (s : State) : s.softResetTable.table = [] := rfl

theorem State.softResetFull_table (s : State) : s.softResetFull.table = [] := by
  simp [State.softResetFull, State.softResetTable_table]

theorem State.softResetFull_params (s : State) : s.softResetFull.params = Params.defaults := by
  simp [State.softResetFull, Store.defaults]

/-! ## A parameter that CONFIG_SET writes -/

/-- The interval of a record after an accepted change of a parameter (R61, R62). -/
def Params.moved (p : Params) (id : ParamId) (v i : Nat) : Nat :=
  match id with
  | .baseInterval => if p.baseInterval < v then max i v else i
  | .intervalCap => if v < p.intervalCap then min i v else i
  | _ => i

theorem State.moveIntervals_eq (s : State) (id : ParamId) (v : Nat) :
    s.moveIntervals id v = s.withTable (Table.mapInterval s.table (s.params.moved id v)) := by
  have still : Table.mapInterval s.table (fun i => i) = s.table := List.map_id s.table
  cases id with
  | baseInterval | intervalCap => rfl
  | _ => exact congrArg s.withTable still.symm

/-- The state with an accepted value in the store, and the intervals moved (R60 to R62). -/
def State.configured (s : State) (id : ParamId) (v : Nat) : State :=
  (s.withTable (Table.mapInterval s.table (s.params.moved id v))).withStore { s.store with params := s.params.set id v }

theorem actConfigSet_accepted {s : State} {body : List Byte} {id : ParamId} (length : body.length = 4)
    (named : paramIdOf? (byteAt body 1) = some id) (fits : s.params.accepts id (wordAt body 2) = true) :
    actConfigSet body s = (s.configured id (wordAt body 2)).accept (byteAt body 1 :: bytes2 (wordAt body 2)) := by
  simp [actConfigSet, length, named, fits, State.moveIntervals_eq, State.configured]

theorem actConfigSet_refused {s : State} {body : List Byte} (length : body.length = 4)
    (unfit : ∀ id, paramIdOf? (byteAt body 1) = some id → s.params.accepts id (wordAt body 2) = false) :
    actConfigSet body s = s.refuse .badValue := by
  rw [actConfigSet, if_neg (by simp [length])]
  split
  · rfl
  next id named => rw [if_neg (by simp [unfit id named])]

/-- An accepted value keeps the cadence relation (R60). -/
theorem Params.CadenceOk.set {p : Params} (ok : p.CadenceOk) {id : ParamId} {v : Nat} (fits : p.accepts id v = true) :
    (p.set id v).CadenceOk := by
  obtain ⟨base, cap, stale, limit, growth⟩ := ok
  cases id with
  | baseInterval | intervalCap | growth | staleLimit =>
    simp only [Params.accepts, within, Bool.and_eq_true, decide_eq_true_eq] at fits
    constructor <;> simp only [Params.set] <;> omega
  | _ => exact ⟨base, cap, stale, limit, growth⟩

/-- An accepted value moves each interval within the bounds that it sets (R61, R62). -/
theorem Params.admits_moved {p : Params} {id : ParamId} {v i : Nat} (fits : p.accepts id v = true) (h : p.Admits i) :
    (p.set id v).Admits (p.moved id v i) := by
  obtain ⟨low, high⟩ := h
  cases id with
  | baseInterval | intervalCap =>
    simp only [Params.accepts, within, Bool.and_eq_true, decide_eq_true_eq] at fits
    simp only [Params.Admits, Params.set, Params.moved]
    split <;> omega
  | _ => exact ⟨low, high⟩

namespace State.IntervalsOk

variable {s t : State}

/-- An empty table holds no interval. -/
theorem of_empty (empty : t.table = []) (ok : t.params.CadenceOk) : t.IntervalsOk :=
  State.intervalsOk_iff.2 ⟨ok, by simp [empty, Table.intervals]⟩

variable (h : s.IntervalsOk)
include h

theorem cadenceOk : s.params.CadenceOk := (State.intervalsOk_iff.1 h).1

/-- Nothing of the cadence has changed. -/
theorem frame (same : t.table.intervals = s.table.intervals ∧ t.params = s.params) : t.IntervalsOk := by
  obtain ⟨table, params⟩ := same
  rw [State.intervalsOk_iff] at h ⊢
  rwa [table, params]

/-- Under the same parameters, every interval is admitted. -/
theorem of_admits (params : t.params = s.params) (all : ∀ e ∈ t.table, s.params.Admits e.2.interval) : t.IntervalsOk :=
  State.intervalsOk_iff.2 ⟨params ▸ h.cadenceOk, Table.forall_intervals.2 (params ▸ all)⟩

theorem admits {e : Nat × Record} (he : e ∈ s.table) : s.params.Admits e.2.interval :=
  Table.forall_intervals.1 (State.intervalsOk_iff.1 h).2 e he

/-! ## Changes of a record -/

theorem modify {slot : Nat} {f : Record → Record} (table : t.table = Table.modify s.table slot f) (params : t.params = s.params)
    (keeps : ∀ r : Record, s.params.Admits r.interval → s.params.Admits (f r).interval) : t.IntervalsOk := by
  refine h.of_admits params fun e he => ?_
  obtain ⟨x, hx, rfl⟩ := List.mem_map.1 (table ▸ he)
  split
  · exact keeps _ (h.admits hx)
  · exact h.admits hx

theorem createRecord (slot : Nat) {r : Record} (new : s.params.Admits r.interval) : (s.createRecord slot r).IntervalsOk := by
  have placed : (s.withTable (Table.put s.table slot r)).IntervalsOk := h.of_admits rfl fun e he =>
    (Table.mem_put he).elim (fun e => e ▸ new) h.admits
  refine placed.frame ⟨?_, by simp⟩
  simp only [State.createRecord]
  split <;> simp

theorem erase {slot : Nat} (table : t.table = Table.erase s.table slot) (params : t.params = s.params) : t.IntervalsOk :=
  h.of_admits params fun _ he => h.admits (List.mem_of_mem_filter (table ▸ he))

theorem markAlert (slot : Nat) (r : Record) : (s.markAlert slot r).1.IntervalsOk := by
  have alerted : (s.modRecord slot (·.alerted s.params.baseInterval)).IntervalsOk :=
    h.modify (f := (·.alerted s.params.baseInterval)) rfl (by simp) fun _ _ => h.cadenceOk.admits_base
  rw [State.markAlert_eq]
  exact alerted.frame (by simp)

theorem takeCommit (slot : Nat) (r : Record) (v : Values) (w : Sweep) : (s.takeCommit slot r v w).IntervalsOk :=
  h.modify (f := fun x => { x.committed s.params v with profile := _ }) rfl (by simp) fun x hx =>
    h.cadenceOk.admits_intervalAfter hx (agrees s.params x.held v) x.streak

omit h in
/-- A marking pass whose markings keep the intervals within the bounds. -/
theorem markPass {mark : State → Nat → Record → State × Option RefreshAction}
    (keeps : ∀ (s : State) (slot : Nat) (r : Record), s.IntervalsOk → (mark s slot r).1.IntervalsOk) (slots : List Nat)
    (h : s.IntervalsOk) : (s.markPass mark slots).1.IntervalsOk := by
  induction slots generalizing s with
  | nil => exact h
  | cons slot rest ih =>
    simp only [State.markPass]
    split
    · exact ih h
    next r _ => exact ih (keeps s slot r h)

theorem driftAlert (l : LinkId) (channels tones : Byte) : (s.driftAlert l channels tones).IntervalsOk :=
  markPass (fun _ slot r h => h.markAlert slot r) _ h

/-! ## Answers of the front end -/

theorem endCommitted (e : EngineId) (w : Sweep) (v : Values) : (s.endCommitted e w v).IntervalsOk := by
  have cleared : (s.clearEngine e w).IntervalsOk := h.frame (by simp)
  simp only [State.endCommitted]
  split
  · exact cleared
  next r _ =>
    have committed := cleared.takeCommit w.slot r v w
    exact committed.frame (by simp)

theorem computeAndEnd (e : EngineId) (w : Sweep) : (s.computeAndEnd e w).IntervalsOk := by
  simp only [State.computeAndEnd]
  split
  · exact h.endCommitted e w _
  · exact h.frame (by simp)

/-- Only a GOOD point can end in a commit (R93 to R96). -/
theorem actOnResult (e : EngineId) (w : Sweep) (c : Condition) (first second : Word) :
    (s.actOnResult e w c first second).IntervalsOk := by
  simp only [State.actOnResult]
  split
  · refine h.frame ?_
    cases c <;> simp [State.zeroResult]
  next k _ =>
    cases c with
    | good =>
      simp only [State.pointResult, State.goodPoint]
      (repeat' split)
      · exact h.frame (by simp)
      · exact h.computeAndEnd e _
      · exact h.frame (by simp)
    | saturated =>
      simp only [State.pointResult, State.saturatedPoint]
      split <;> exact h.frame (by simp)
    | invalid => exact h.frame (by simp [State.pointResult])

theorem calResult (l : LinkId) (number condition : Byte) (first second : Word) :
    (s.calResult l number condition first second).IntervalsOk := by
  simp only [State.calResult]
  split
  · exact h
  next e w _ =>
    have accepted : (s.acceptAnswer l e w).IntervalsOk := h.frame (by simp [State.acceptAnswer])
    exact accepted.actOnResult e _ _ first second

/-! ## Lookups -/

theorem serve (tag : Fin 4) (slot : Nat) (r : Record) (aliased : Bool) : (s.serve tag slot r aliased).1.IntervalsOk :=
  h.frame (by simp [State.serve, State.stamp])

theorem autoCreate (tag : Fin 4) (key : Key) : (s.autoCreate tag key).1.IntervalsOk := by
  have new : s.params.Admits (s.autoRecord key).interval := h.cadenceOk.admits_base
  cases free : Table.lowestFree s.table with
  | some slot =>
    rw [State.autoCreate_free free]
    exact h.createRecord slot new
  | none =>
    cases found : Table.evictionCandidate s.table with
    | none => rwa [State.autoCreate_miss free found]
    | some c =>
      rw [State.autoCreate_evict free found]
      have evicted : (s.evict c.1 c.2 key).IntervalsOk :=
        h.erase (slot := c.1) (by simp [State.evict, State.removeRecord]) (by simp)
      exact evicted.createRecord c.1 (by simpa using new)

theorem answerOwn (tag : Fin 4) (key : Key) : (s.answerOwn tag key).1.IntervalsOk := by
  simp only [State.answerOwn]
  (repeat' split)
  · exact h.serve tag _ _ false
  · exact h.autoCreate tag key
  · exact h

theorem answerAliased (tag : Fin 4) (key : Key) (a : AliasEntry) : (s.answerAliased tag key a).1.IntervalsOk := by
  simp only [State.answerAliased]
  (repeat' split)
  · exact h.serve tag _ _ true
  · exact h
  · exact h.serve tag _ _ false
  · exact h.serve tag _ _ true
  · exact h.answerOwn tag key

theorem answerLookup (l : LinkId) (tag : Fin 4) (channel tone gain : Byte) :
    (s.answerLookup l tag channel tone gain).1.IntervalsOk := by
  simp only [State.answerLookup, State.answerKey]
  (repeat' split)
  · exact h.answerAliased tag _ _
  · exact h.answerOwn tag _
  · exact h
  · exact h

theorem handOver (l : LinkId) (tag : Fin 4) (channel tone gain : Byte) : (s.handOver l tag channel tone gain).IntervalsOk := by
  have tagged : (s.withLink l { s.link l with tags := (s.link l).tags ++ [tag] }).IntervalsOk := h.frame (by simp)
  have answered := tagged.answerLookup l tag channel tone gain
  exact answered.frame (by simp [State.handOver])

theorem lookup (l : LinkId) (tag channel tone gain : Byte) : (s.lookup l tag channel tone gain).IntervalsOk := by
  simp only [State.lookup]
  (repeat' split)
  · exact h.frame (by simp)
  · exact h.frame (by simp)
  · exact h.handOver l _ channel tone gain

/-! ## Frames -/

theorem takeUp (l : LinkId) (kind : Byte) (body : List Byte) : (s.takeUp l kind body).IntervalsOk := by
  simp only [State.takeUp]
  (repeat' split)
  · exact h.lookup l _ _ _ _
  · exact h.calResult l _ _ _ _
  · exact h.frame (by simp)
  · exact h.driftAlert l _ _
  · exact h.frame (by simp)
  · exact h.frame (by simp)

theorem takeFrame (l : LinkId) (kind : Byte) (body : List Byte) : (s.takeFrame l kind body).IntervalsOk := by
  simp only [State.takeFrame]
  (repeat' split)
  · exact h
  · exact h.frame (by simp)
  · exact h
  · exact h.takeUp l kind body

omit h in
theorem arrive {act : State → State} (l : LinkId) (kind : Byte) (body : List Byte)
    (keeps : ∀ {s : State}, s.IntervalsOk → (act s).IntervalsOk) (h : s.IntervalsOk) :
    (s.arrive l kind body act).IntervalsOk := by
  simp only [State.arrive]
  split
  · exact h
  · exact keeps (h.frame (by simp))

omit h in
theorem arriveUp {act : State → State} (l : LinkId) (kind : Byte) (body : List Byte)
    (keeps : ∀ {s : State}, s.IntervalsOk → (act s).IntervalsOk) (h : s.IntervalsOk) :
    (s.arrive l kind body fun s => s.whenUp l (act s)).IntervalsOk := by
  refine arrive l kind body (fun {s} h => ?_) h
  simp only [State.whenUp]
  split
  · exact keeps h
  · exact h

/-! ## Requests -/

omit h in
theorem takeRequest {act : List Byte → State → Answer}
    (keeps : ∀ {s : State} body, s.IntervalsOk → (act body s).state.IntervalsOk) (kind : Byte) (body : List Byte)
    (h : s.IntervalsOk) : (s.takeRequest kind body act).IntervalsOk := by
  have begun : s.beginRequest.IntervalsOk := h.frame (by simp)
  simp only [State.takeRequest]
  split
  · exact (keeps body begun).frame (by simp)
  · exact h

omit h in
theorem onRecord {act : Nat → Record → Answer} (key : Key) (keeps : ∀ slot r, (act slot r).state.IntervalsOk)
    (h : s.IntervalsOk) : (s.onRecord key act).state.IntervalsOk := by
  simp only [State.onRecord]
  split
  · exact h
  next slot r _ => exact keeps slot r

omit h in
theorem keyRequest {act : Nat → Record → Answer} (body : List Byte) (keeps : ∀ slot r, (act slot r).state.IntervalsOk)
    (h : s.IntervalsOk) : (s.keyRequest body act).state.IntervalsOk := by
  simp only [State.keyRequest]
  (repeat' split)
  · exact h
  · exact h
  · exact onRecord _ keeps h

theorem createClaim (key : Key) (policy : Policy) (pin : Bool) (values : Option Values) :
    (s.createClaim key policy pin values).state.IntervalsOk := by
  simp only [State.createClaim]
  (repeat' split)
  · exact h
  · exact h
  · exact h.createRecord _ h.cadenceOk.admits_base

theorem actCreate (body : List Byte) : (actCreate body s).state.IntervalsOk := by
  simp only [Machine.actCreate]
  (repeat' split)
  · exact h
  · exact h
  · exact h
  · exact h.createClaim _ _ _ _
  · exact h.createClaim _ _ _ _
  · exact h

theorem actLoad (body : List Byte) : (actLoad body s).state.IntervalsOk := by
  simp only [Machine.actLoad]
  (repeat' split)
  · exact h
  · exact h
  · exact h
  next v _ =>
    refine onRecord _ (fun slot r => ?_) h
    have freed : ((s.withdraw slot r .superseded).freeProfile slot r).IntervalsOk := h.frame (by simp [State.freeProfile])
    refine freed.modify (f := fun r => r.loaded s.params.baseInterval v) rfl rfl fun _ _ => ?_
    simpa [Record.loaded, State.freeProfile] using h.cadenceOk.admits_base

theorem actRetire (body : List Byte) : (actRetire body s).state.IntervalsOk :=
  keyRequest body (fun slot r => h.erase (slot := slot) (by simp [State.removeRecord, State.accept]) (by simp [State.accept])) h

theorem actSetPolicy (body : List Byte) : (actSetPolicy body s).state.IntervalsOk := by
  simp only [Machine.actSetPolicy]
  (repeat' split)
  · exact h
  · exact h
  · exact onRecord _ (fun slot r => h.frame (by simp [State.accept])) h
  · exact h

theorem actRefresh (body : List Byte) : (actRefresh body s).state.IntervalsOk := by
  refine keyRequest body (fun slot r => ?_) h
  have claimed : (s.refreshClaim slot r).1.IntervalsOk := h.frame (by simp)
  split
  next => exact h
  next =>
    split
    next => exact h
    next =>
      split
      next s' a found => simpa only [found] using claimed
      next => exact h

theorem actRefreshScope (body : List Byte) : (actRefreshScope body s).state.IntervalsOk := by
  simp only [Machine.actRefreshScope]
  (repeat' split)
  · exact h
  · exact h
  · exact h
  · exact markPass (fun _ _ _ h => h.frame (by simp)) _ h

theorem actTonePlanSet (body : List Byte) : (actTonePlanSet body s).state.IntervalsOk := by
  simp only [Machine.actTonePlanSet]
  (repeat' split)
  · exact h
  · exact h
  · exact markPass (fun _ slot r h => h.markAlert slot r) _ (h.frame ⟨rfl, rfl⟩)
  · exact h.frame ⟨rfl, rfl⟩
  · exact h

theorem actLevelSet (body : List Byte) : (actLevelSet body s).state.IntervalsOk := by
  simp only [Machine.actLevelSet]
  (repeat' split)
  · exact h
  · exact h
  · exact h
  · exact h.frame ⟨rfl, rfl⟩

theorem actAliasSet (body : List Byte) : (actAliasSet body s).state.IntervalsOk := by
  simp only [Machine.actAliasSet]
  (repeat' split)
  · exact h
  · exact h
  · exact h
  · exact h.frame ⟨rfl, rfl⟩
  · exact h

theorem actAliasClear (body : List Byte) : (actAliasClear body s).state.IntervalsOk := by
  simp only [Machine.actAliasClear, State.indexRequest]
  (repeat' split)
  · exact h
  · exact h
  · exact h.frame ⟨rfl, rfl⟩

theorem actLinkControl (body : List Byte) : (actLinkControl body s).state.IntervalsOk := by
  simp only [Machine.actLinkControl]
  (repeat' split)
  · exact h
  · exact h
  · exact h
  · exact h.frame (by simp [State.accept])
  · exact h.frame (by simp [State.accept])

omit h in
theorem softResetFull (s : State) : s.softResetFull.IntervalsOk :=
  of_empty s.softResetFull_table (s.softResetFull_params ▸ Params.defaults_cadenceOk)

theorem softResetTable : s.softResetTable.IntervalsOk :=
  of_empty rfl (by simpa using h.cadenceOk)

theorem actSoftReset (body : List Byte) : (actSoftReset body s).state.IntervalsOk := by
  simp only [Machine.actSoftReset]
  (repeat' split)
  · exact h
  · exact h
  · exact (softResetFull s).frame (by simp [State.accept])
  · exact h.softResetTable.frame (by simp [State.accept])

/-- An accepted value keeps the cadence relation, and the intervals are moved within the bounds it sets (R60 to R62). -/
theorem configured {id : ParamId} {v : Nat} (fits : s.params.accepts id v = true) : (s.configured id v).IntervalsOk := by
  rw [State.intervalsOk_iff, Table.forall_intervals]
  refine ⟨h.cadenceOk.set fits, fun e he => ?_⟩
  obtain ⟨x, hx, rfl⟩ := List.mem_map.1 he
  exact Params.admits_moved fits (h.admits hx)

theorem actConfigSet (body : List Byte) : (actConfigSet body s).state.IntervalsOk := by
  by_cases length : body.length = 4
  case neg =>
    rw [Machine.actConfigSet, if_pos length]
    exact h
  by_cases fits : ∃ id, paramIdOf? (byteAt body 1) = some id ∧ s.params.accepts id (wordAt body 2) = true
  · obtain ⟨id, named, fits⟩ := fits
    rw [actConfigSet_accepted length named fits]
    exact h.configured fits
  · rw [actConfigSet_refused length (by simpa using fits)]
    exact h

theorem actByKind (kind : Byte) (body : List Byte) : (actByKind kind body s).state.IntervalsOk := by
  simp only [Machine.actByKind]
  split
  next act found =>
    simp only [actOf?] at found
    split at found <;> cases found
    · exact h.actCreate body
    · exact h.actLoad body
    · rwa [actRead_state]
    · exact h.actRetire body
    · exact h.actSetPolicy body
    · exact h.actRefresh body
    · exact h.actRefreshScope body
    · rwa [actScan_state]
    · exact h.actAliasSet body
    · exact h.actAliasClear body
    · rwa [actAliasRead_state]
    · exact h.actTonePlanSet body
    · rwa [actTonePlanRead_state]
    · exact h.actLevelSet body
    · rwa [actLevelRead_state]
    · exact h.actConfigSet body
    · rwa [actConfigGet_state]
    · exact h.actLinkControl body
    · rwa [actStatus_state]
    · exact h.actSoftReset body
  next => exact h

/-! ## The commands -/

theorem epochExpiry : s.startEpoch.ageAll.offerWaiting.IntervalsOk := h.frame (by simp [State.startEpoch])

omit h in
theorem running {s' : State} (h : s.IntervalsOk) (h' : s'.IntervalsOk) (e : whileRunning s s' = .next t) : t.IntervalsOk := by
  simp only [whileRunning, Host.Outcome.next.injEq] at e
  subst e
  split
  · exact h'
  · exact h

theorem exec {c : Instr} (e : exec c s = .next t) : t.IntervalsOk := by
  cases c with
  | powerOnReset csLow =>
    cases e
    exact of_empty rfl Params.defaults_cadenceOk
  | rstNAsserted =>
    cases e
    exact h.frame (by simp)
  | requestWrite | replyRead | portStatus | commandByteUnknown | outboundFrameSent | dispatch =>
    exact running h (h.frame (by simp)) e
  | unknownKind kind => exact running h (takeRequest (fun b h => h.actByKind kind b) _ _ h) e
  | create => exact running h (takeRequest (fun b h => h.actCreate b) _ _ h) e
  | load => exact running h (takeRequest (fun b h => h.actLoad b) _ _ h) e
  | read => exact running h (takeRequest (fun b h => by rwa [actRead_state]) _ _ h) e
  | retire => exact running h (takeRequest (fun b h => h.actRetire b) _ _ h) e
  | setPolicyFixed | setPolicyAuto | setPolicyRefused =>
    exact running h (takeRequest (fun b h => h.actSetPolicy b) _ _ h) e
  | refresh => exact running h (takeRequest (fun b h => h.actRefresh b) _ _ h) e
  | refreshScope => exact running h (takeRequest (fun b h => h.actRefreshScope b) _ _ h) e
  | scan => exact running h (takeRequest (fun b h => by rwa [actScan_state]) _ _ h) e
  | aliasSet => exact running h (takeRequest (fun b h => h.actAliasSet b) _ _ h) e
  | aliasClear => exact running h (takeRequest (fun b h => h.actAliasClear b) _ _ h) e
  | aliasRead => exact running h (takeRequest (fun b h => by rwa [actAliasRead_state]) _ _ h) e
  | tonePlanSet => exact running h (takeRequest (fun b h => h.actTonePlanSet b) _ _ h) e
  | tonePlanRead => exact running h (takeRequest (fun b h => by rwa [actTonePlanRead_state]) _ _ h) e
  | levelSet => exact running h (takeRequest (fun b h => h.actLevelSet b) _ _ h) e
  | levelRead => exact running h (takeRequest (fun b h => by rwa [actLevelRead_state]) _ _ h) e
  | configSet => exact running h (takeRequest (fun b h => h.actConfigSet b) _ _ h) e
  | configGet => exact running h (takeRequest (fun b h => by rwa [actConfigGet_state]) _ _ h) e
  | linkControlDisable | linkControlEnable | linkControlRefused =>
    exact running h (takeRequest (fun b h => h.actLinkControl b) _ _ h) e
  | status => exact running h (takeRequest (fun b h => by rwa [actStatus_state]) _ _ h) e
  | softResetTable | softResetFull | softResetRefused =>
    exact running h (takeRequest (fun b h => h.actSoftReset b) _ _ h) e
  | epochExpiry => exact running h h.epochExpiry e
  | retryCountdownExpiry => exact running h (h.frame (by simp)) e
  | partnerCheck | requestTimerExpiry | waitTimerExpiry | helloTimerExpiry | frameCheckFailure | incompleteFrame =>
    refine running h ?_ e
    (repeat' split) <;> exact h.frame (by simp)
  | helloAck link body => exact running h (arrive link _ _ (fun h => h.frame (by simp)) h) e
  | lookup link tag channel tone gain => exact running h (arriveUp link _ _ (fun h => h.lookup link tag channel tone gain) h) e
  | calResult link number condition first second =>
    exact running h (arriveUp link _ _ (fun h => h.calResult link number condition first second) h) e
  | calDeclined link | goodbye link => exact running h (arriveUp link _ _ (fun h => h.frame (by simp)) h) e
  | driftAlert link channels tones => exact running h (arriveUp link _ _ (fun h => h.driftAlert link channels tones) h) e
  | unknownFrameKind link kind body => exact running h (arrive link _ _ (fun h => h.takeFrame link kind body) h) e

theorem step (e : step s = .next t) : t.IntervalsOk := by
  simp only [Machine.step] at e
  split at e
  · cases e
    exact h
  next rest _ =>
    have popped : ({ s with pending := rest } : State).IntervalsOk := h
    exact popped.exec e

end State.IntervalsOk

/-- Settles O7: every command keeps the cadence relation and moves the intervals only within its bounds. -/
theorem intervalsStayWithinCadence : Obligations.IntervalsStayWithinCadence := fun _ _ h e => h.step e

end Sys2Proof.Machine
end

section
/-! The agreement test, and the streak and interval that it sets (O51). -/

namespace Sys2Proof.Machine

/-- The wrapped difference of two phases is its congruent in -2048..2047 (R57). -/
theorem wrapPhase_congruent {d : Int} (low : -4096 ≤ d) (high : d ≤ 4095) :
    -2048 ≤ wrapPhase d ∧ wrapPhase d ≤ 2047 ∧ (4096 : Int) ∣ d - wrapPhase d := by
  simp only [wrapPhase]
  (repeat' split) <;> omega

/-- A property of the wrapped difference is one of the congruent in -2048..2047. -/
theorem wrapPhase_iff {d : Int} (low : -4096 ≤ d) (high : d ≤ 4095) (p : Int → Prop) :
    p (wrapPhase d) ↔ ∃ x : Int, -2048 ≤ x ∧ x ≤ 2047 ∧ (4096 : Int) ∣ d - x ∧ p x := by
  obtain ⟨wrapLow, wrapHigh, congruent⟩ := wrapPhase_congruent low high
  refine ⟨fun h => ⟨_, wrapLow, wrapHigh, congruent, h⟩, fun ⟨x, hl, hh, hx, h⟩ => ?_⟩
  have same : x = wrapPhase d := by omega
  exact same ▸ h

/-- Settles O51: the test is its four differences, the phase difference up to whole turns. -/
theorem agreementSetsStreakAndInterval : Obligations.AgreementSetsStreakAndInterval := by
  intro p old new streak interval _ range low high agree
  refine ⟨?test, ?streak, ?interval⟩
  case test =>
    cases old with
    | none => simp [agree, agrees]
    | some h =>
      obtain ⟨oldLow, oldHigh⟩ := range h rfl
      have phase := wrapPhase_iff (d := new.trim - h.values.trim) (by omega) (by omega) (|·| ≤ (p.tolPhase : Int))
      simp [agree, agrees, ← Int.ofNat_le, phase, and_assoc]
  case streak => simp [streakAfter, min_comm]
  case interval => simp [intervalAfter, min_comm]

end Sys2Proof.Machine
end

section
/-! The timers of one owner (O47). -/

namespace Sys2Proof.Machine

theorem Standing.countdownEnded_eq (st : Standing) :
    st.countdownEnded = if st = .retry 1 ∨ st = .retry 0 then .waiting .retry else st := by
  cases st with
  | retry n =>
    have last : n ≤ 1 ↔ n = 1 ∨ n = 0 := by omega
    simp [Standing.countdownEnded, last]
  | _ => simp [Standing.countdownEnded]

theorem Record.countdownEnded_eq (r : Record) :
    { r with standing := r.standing.countdownEnded } =
      if r.standing = .retry 1 ∨ r.standing = .retry 0 then { r with standing := .waiting .retry } else r := by
  rw [Standing.countdownEnded_eq]
  split <;> rfl

section
variable {s : State} {e : EngineId} {w : Sweep} {ms : Nat}

theorem exec_requestTimerExpiry (running : s.rstN = true) (run : s.sweep e = some w) (timer : w.timer = .request ms) :
    exec (.requestTimerExpiry e) s = .next (s.requestTimeout e w) := by
  refine (whileRunning_of_high running).trans ?_
  simp only [run, timer]

theorem exec_waitTimerExpiry (running : s.rstN = true) (run : s.sweep e = some w) (timer : w.timer = .wait ms) :
    exec (.waitTimerExpiry e) s = .next (s.makeRequest e { w with retries := 0 }) := by
  refine (whileRunning_of_high running).trans ?_
  simp only [run, timer]

theorem exec_helloTimerExpiry {l : LinkId} (running : s.rstN = true) (down : (s.link l).state = .down)
    (timer : (s.link l).hello = some ms) :
    exec (.helloTimerExpiry l) s =
      .next
        (s.withLink l
          { s.link l with
            hello := some Config.helloPeriod
            out := if (s.link l).helloQueued then (s.link l).out
              else (s.link l).out ++ [{ body := .hello l, orphan := false }] }) := by
  refine (whileRunning_of_high running).trans ?_
  simp only [down, timer]

end

/-- Settles O47: each expiry acts on its owner as the equation of its command says, and a timeout counts on the owner's link. -/
theorem timersOfOneOwnerExpire : Obligations.TimersOfOneOwnerExpire := by
  refine ⟨?request, ?countdown, fun s e w ms => exec_waitTimerExpiry, fun s l ms => exec_helloTimerExpiry⟩
  case request =>
    intro s e w ms running run timer lk stopped u
    have counted : (u.link w.key.link).timeouts = lk.timeouts + 1 := by simp [u]
    rw [exec_requestTimerExpiry running run timer, ← counted]
    rfl
  case countdown =>
    intro s slot running
    refine ⟨_, whileRunning_of_high running, rfl, ?_⟩
    simp only [← Record.countdownEnded_eq]
    exact Table.differsAt_modify_map s.table slot fun r => { r with standing := r.standing.countdownEnded }

end Sys2Proof.Machine
end

section
/-! CONFIG_SET and CONFIG_GET by the id and the value that their bodies carry (O37). -/

namespace Sys2Proof.Machine

/-! ## Parameters by their ids (10.6) -/

/-- The id of a parameter, 1 to 17. -/
def ParamId.number : ParamId → Nat
  | .epochMs => 1 | .baseInterval => 2 | .intervalCap => 3 | .growth => 4 | .streakMin => 5 | .staleLimit => 6
  | .retryDelay => 7 | .failLimit => 8 | .tolOffset => 9 | .tolScale => 10 | .tolPhase => 11 | .spreadLimit => 12
  | .calTimeoutMs => 13 | .declineWaitMs => 14 | .declineLimit => 15 | .autocreateMask => 16 | .noticeMask => 17

theorem ParamId.number_of_byte {b : Byte} {id : ParamId} (h : paramIdOf? b = some id) : id.number = b.toNat := by
  simp only [paramIdOf?] at h
  split at h <;> cases h <;> simp_all [ParamId.number]

theorem paramIdOf?_none {b : Byte} : paramIdOf? b = none ↔ b.toNat = 0 ∨ 17 < b.toNat := by
  simp only [paramIdOf?]
  split
  case h_18 =>
    simp only [imp_false] at *
    simp only [true_iff]
    omega
  all_goals
    simp only [reduceCtorEq, false_iff]
    omega

/-- An id byte of 1 to 17 names the parameter of that number. -/
theorem paramIdOf?_byte {n : Nat} (low : 1 ≤ n) (high : n ≤ 17) : ∃ id, paramIdOf? (byte n) = some id ∧ id.number = n := by
  have size : (byte n).toNat = n := by rw [byte_toNat]; omega
  have inRange : ¬((byte n).toNat = 0 ∨ 17 < (byte n).toNat) := by omega
  obtain ⟨id, named⟩ := Option.ne_none_iff_exists'.1 (mt paramIdOf?_none.1 inRange)
  exact ⟨id, named, (ParamId.number_of_byte named).trans size⟩

section
variable (p : Params) (id : ParamId) (v : Nat)

theorem Params.set_list : (p.set id v).list = p.list.set (id.number - 1) v := by cases id <;> rfl

theorem Params.list_number : p.list[id.number - 1]? = some (p.get id) := by cases id <;> rfl

theorem Params.moved_number (i : Nat) :
    p.moved id v i =
      if id.number = 2 then if p.baseInterval < v then max i v else i
      else if id.number = 3 then if v < p.intervalCap then min i v else i
      else i := by
  cases id <;> rfl

/-- The value of a parameter is accepted exactly in the range of 10.6. -/
theorem Params.accepts_iff (limit : 0 < p.staleLimit) :
    p.accepts id v = true ↔ (p.range id.number).1 ≤ v ∧ v ≤ (p.range id.number).2 := by
  cases id <;> simp [Params.accepts, Params.range, ParamId.number, within, maskFits] <;> omega

end

/-! ## The requests -/

section
variable {s : State} {id : Byte} {n value : Nat}

theorem wordAt_value (small : value ≤ 65535) (a b : Byte) : wordAt ([a, b] ++ bytes2 value) 2 = value := bytes2_read small

theorem exec_configSet_accepted {param : ParamId} (takes : s.Takes kindConfigSet ([id, byte n] ++ bytes2 value))
    (small : value ≤ 65535) (named : paramIdOf? (byte n) = some param) (fits : s.params.accepts param value = true) :
    exec (.configSet ([id, byte n] ++ bytes2 value)) s =
      .next
        { s.configured param value with
          host := s.replied { kind := kindConfigSet, id := id, status := .ok, payload := byte n :: bytes2 value } } := by
  have word := wordAt_value small id (byte n)
  refine State.whileRunning_takes_quiet takes (t := s.configured param value) fun host => ?_
  rw [actConfigSet_accepted (s := s.withHost host) (body := [id, byte n] ++ bytes2 value) rfl named (by rwa [word]), word]
  rfl

theorem exec_configSet_refused (takes : s.Takes kindConfigSet ([id, byte n] ++ bytes2 value)) (small : value ≤ 65535)
    (unfit : ∀ param, paramIdOf? (byte n) = some param → s.params.accepts param value = false) :
    exec (.configSet ([id, byte n] ++ bytes2 value)) s =
      .next { s with host := s.replied { kind := kindConfigSet, id := id, status := .badValue, payload := [] } } := by
  have word := wordAt_value small id (byte n)
  refine State.whileRunning_takes_quiet takes (t := s) fun host => ?_
  rw [actConfigSet_refused (s := s.withHost host) rfl (by rwa [word])]
  rfl

theorem exec_configGet_named {param : ParamId} (takes : s.Takes kindConfigGet [id, byte n])
    (named : paramIdOf? (byte n) = some param) :
    exec (.configGet [id, byte n]) s =
      .next
        { s with
          host := s.replied
            { kind := kindConfigGet, id := id, status := .ok, payload := byte n :: bytes2 (s.params.get param) } } := by
  refine State.whileRunning_takes_quiet takes (t := s) fun host => ?_
  have named : paramIdOf? (byteAt [id, byte n] 1) = some param := named
  rw [actConfigGet, named]
  rfl

theorem exec_configGet_refused (takes : s.Takes kindConfigGet [id, byte n]) (unnamed : paramIdOf? (byte n) = none) :
    exec (.configGet [id, byte n]) s =
      .next { s with host := s.replied { kind := kindConfigGet, id := id, status := .badValue, payload := [] } } := by
  refine State.whileRunning_takes_quiet takes (t := s) fun host => ?_
  have unnamed : paramIdOf? (byteAt [id, byte n] 1) = none := unnamed
  rw [actConfigGet, unnamed]
  rfl

end

/-- Settles O37: a parameter's number gives its range and its place in the list, and the accepted value moves the intervals. -/
theorem configSetKeepsBounds : Obligations.ConfigSetKeepsBounds := by
  intro s id n value h byteSize small
  have limit : 0 < s.params.staleLimit := by have := h.cadenceOk.stale; omega
  have size : (byte n).toNat = n := by rw [byte_toNat]; omega
  refine ⟨fun takes => ⟨fun low high above below => ?accepted, fun outside => ?refused⟩,
    fun takes => ⟨fun v low found => ?reported, fun outside => ?unnamed⟩⟩
  case accepted =>
    obtain ⟨param, named, rfl⟩ := paramIdOf?_byte low high
    have fits := (s.params.accepts_iff param value limit).2 ⟨above, below⟩
    refine ⟨_, exec_configSet_accepted takes small named fits, s.params.set_list param value, ?_, rfl, rfl⟩
    simp only [← Params.moved_number]
    rfl
  case refused =>
    refine exec_configSet_refused takes small fun param named => ?_
    have number := (ParamId.number_of_byte named).trans size
    have range : 1 ≤ n ∧ n ≤ 17 := by
      have some' : paramIdOf? (byte n) ≠ none := by simp [named]
      have := mt paramIdOf?_none.2 some'
      omega
    rw [← Bool.not_eq_true, s.params.accepts_iff param value limit, number]
    omega
  case reported =>
    have inList : n - 1 < 17 := (List.getElem?_eq_some_iff.1 found).1
    obtain ⟨param, named, rfl⟩ := paramIdOf?_byte low (by omega)
    rw [Params.list_number, Option.some.injEq] at found
    exact found ▸ exec_configGet_named takes named
  case unnamed => exact exec_configGet_refused takes (paramIdOf?_none.2 (by rwa [size]))

end Sys2Proof.Machine
end

section
/-! The sweeps stay one to a link (O10), told link by link: either no engine sweeps on the link and it awaits no number, or one engine
does and its sweep agrees with the link. A claim that changes one link's sweep leaves the story of every other link alone. -/

namespace Sys2Proof.Machine

/-! ## What a link and its sweep say of each other -/

/-- The sweep that an engine runs on a link. -/
def State.sweepOn (s : State) (e : EngineId) (l : LinkId) : Option Sweep := (s.sweep e).filter fun w => w.key.link == l

/-- A sweep agrees with the link it runs on: the link is UP, both await one number (R150), the restarts are the level (R86), and none is
awaited in WAIT (R87). -/
structure Sweep.Agrees (w : Sweep) (lk : Link) : Prop where
  up : lk.state = .up
  awaited : lk.awaited = w.awaited
  level : w.restarts = w.level.val
  wait : w.mode = .wait → w.awaited = none

/-- What is kept of one link: no sweep and no awaited number, or the sweep of one engine. -/
inductive State.LinkOk (s : State) (l : LinkId) : Prop where
  | idle (none' : ∀ e, s.sweepOn e l = none) (awaited : (s.link l).awaited = none)
  | swept {e : EngineId} {w : Sweep} (run : s.sweepOn e l = some w) (alone : s.sweepOn (otherEngine e) l = none)
      (agrees : w.Agrees (s.link l))

theorem State.sweepOn_eq_some {s : State} {e : EngineId} {l : LinkId} {w : Sweep} :
    s.sweepOn e l = some w ↔ s.sweep e = some w ∧ w.key.link = l := by
  simp [State.sweepOn, Option.filter_eq_some_iff]

theorem State.sweepOn_eq_none {s : State} {e : EngineId} {l : LinkId} :
    s.sweepOn e l = none ↔ ∀ w, s.sweep e = some w → w.key.link ≠ l := by
  simp [State.sweepOn, Option.filter_eq_none_iff]

theorem State.sweepsOn_eq_false {s : State} {e : EngineId} {l : LinkId} : s.sweepsOn e l = false ↔ s.sweepOn e l = none := by
  rw [State.sweepOn_eq_none, ← Bool.not_eq_true, State.sweepsOn_iff]
  push Not
  rfl

theorem State.sweepOn_congr {s t : State} {e : EngineId} (same : t.sweep e = s.sweep e) (l : LinkId) :
    t.sweepOn e l = s.sweepOn e l := by
  rw [State.sweepOn, same, State.sweepOn]

theorem EngineId.eq_or_other (e f : EngineId) : f = e ∨ f = otherEngine e := by cases e <;> cases f <;> simp [otherEngine]

namespace State.LinkOk

variable {s : State} {e : EngineId} {l : LinkId} {w : Sweep} (h : s.LinkOk l)
include h

theorem of_run (run : s.sweepOn e l = some w) : s.sweepOn (otherEngine e) l = none ∧ w.Agrees (s.link l) := by
  cases h with
  | idle none' _ => simp [none'] at run
  | @swept f v runs alone agrees =>
    obtain rfl | rfl := EngineId.eq_or_other f e
    · cases runs.symm.trans run
      exact ⟨alone, agrees⟩
    · simp [alone] at run

theorem awaited_of_idle (none' : ∀ e, s.sweepOn e l = none) : (s.link l).awaited = none := by
  cases h with
  | idle _ awaited => exact awaited
  | swept run _ _ => simp [none'] at run

/-- A link whose state, awaited number and sweeps are as they were. -/
theorem of_same {t : State} (state : (t.link l).state = (s.link l).state) (awaited : (t.link l).awaited = (s.link l).awaited)
    (sweeps : ∀ e, t.sweepOn e l = s.sweepOn e l) : t.LinkOk l := by
  cases h with
  | idle none' quiet => exact .idle (fun e => (sweeps e).trans (none' e)) (awaited.trans quiet)
  | swept run alone agrees =>
    obtain ⟨up, number, level, wait⟩ := agrees
    exact .swept ((sweeps _).trans run) ((sweeps _).trans alone) ⟨state.trans up, awaited.trans number, level, wait⟩

end State.LinkOk

theorem State.sweepsOk_iff {s : State} : s.SweepsOk ↔ ∀ l, s.LinkOk l := by
  constructor
  · rintro ⟨agrees, alone, quiet⟩ l
    have agrees {e : EngineId} {w : Sweep} (run : s.sweep e = some w) : w.Agrees (s.link w.key.link) := by
      obtain ⟨up, awaited, level, wait⟩ := agrees e (by cases e <;> simp) w run
      exact ⟨up, awaited, level, wait⟩
    cases run₀ : s.sweepOn .se0 l with
    | some w =>
      obtain ⟨run, rfl⟩ := State.sweepOn_eq_some.1 run₀
      exact .swept run₀ (State.sweepOn_eq_none.2 fun v runs => Ne.symm (alone w run v runs)) (agrees run)
    | none =>
      cases run₁ : s.sweepOn .se1 l with
      | some w =>
        obtain ⟨run, rfl⟩ := State.sweepOn_eq_some.1 run₁
        exact .swept run₁ run₀ (agrees run)
      | none =>
        refine .idle (fun e => ?_) (quiet l (State.sweepsOn_eq_false.2 run₀) (State.sweepsOn_eq_false.2 run₁))
        cases e
        · exact run₀
        · exact run₁
  · intro h
    refine ⟨fun e _ w run => ?_, fun w run v runs same => ?_, fun l off₀ off₁ => (h l).awaited_of_idle fun e => ?_⟩
    · obtain ⟨-, up, awaited, level, wait⟩ := (h w.key.link).of_run (State.sweepOn_eq_some.2 ⟨run, rfl⟩)
      exact ⟨up, awaited, level, wait⟩
    · have run : s.sweepOn .se0 w.key.link = some w := State.sweepOn_eq_some.2 ⟨run, rfl⟩
      exact State.sweepOn_eq_none.1 ((h w.key.link).of_run run).1 v runs same.symm
    · cases e
      · exact State.sweepsOn_eq_false.1 off₀
      · exact State.sweepsOn_eq_false.1 off₁

/-! ## Answers and removals -/

@[simp] theorem State.refuse_state (s : State) (status : Status) : (s.refuse status).state = s := rfl

@[simp] theorem State.accept_state (s : State) (payload : List Byte) : (s.accept payload).state = s := rfl

section
variable (s : State) (l m : LinkId) (p : OutMsg → Bool)

@[simp] theorem State.removeOut_link_state : ((s.removeOut l p).link m).state = (s.link m).state := by
  by_cases h : m = l
  · rw [h, ← s.removeOut_link_rest l p]
  · rw [s.removeOut_link_other l p h]

@[simp] theorem State.removeOut_link_awaited : ((s.removeOut l p).link m).awaited = (s.link m).awaited := by
  by_cases h : m = l
  · rw [h, ← s.removeOut_link_rest l p]
  · rw [s.removeOut_link_other l p h]

end

namespace State.SweepsOk

variable {s t : State} {e : EngineId} {w v : Sweep} (h : s.SweepsOk)
include h

theorem linkOk (l : LinkId) : s.LinkOk l := State.sweepsOk_iff.1 h l

theorem of_run (run : s.sweep e = some w) : s.sweepOn (otherEngine e) w.key.link = none ∧ w.Agrees (s.link w.key.link) :=
  (h.linkOk w.key.link).of_run (State.sweepOn_eq_some.2 ⟨run, rfl⟩)

/-- Nothing of the sweeps has changed, nor of the links' states and awaited numbers. -/
theorem frame (same : (∀ e, t.sweep e = s.sweep e)
    ∧ ∀ l, (t.link l).state = (s.link l).state ∧ (t.link l).awaited = (s.link l).awaited) : t.SweepsOk := by
  obtain ⟨sweeps, links⟩ := same
  refine State.sweepsOk_iff.2 fun l => ?_
  obtain ⟨state, awaited⟩ := links l
  exact (h.linkOk l).of_same state awaited fun e => State.sweepOn_congr (sweeps e) l

/-- One link's story has changed. -/
theorem update {l : LinkId} (links : ∀ m, m ≠ l → t.link m = s.link m) (sweeps : ∀ m, m ≠ l → ∀ e, t.sweepOn e m = s.sweepOn e m)
    (self : t.LinkOk l) : t.SweepsOk := by
  refine State.sweepsOk_iff.2 fun m => ?_
  by_cases hm : m = l
  · exact hm ▸ self
  · have same := links m hm
    exact (h.linkOk m).of_same (by rw [same]) (by rw [same]) (sweeps m hm)

/-- A link on which no engine sweeps, changed as it may be, still awaits none. -/
theorem relink {l : LinkId} (idle : ∀ e, s.sweepOn e l = none) (sweeps : ∀ e, t.sweep e = s.sweep e)
    (links : ∀ m, m ≠ l → t.link m = s.link m) (awaited : (t.link l).awaited = none) : t.SweepsOk :=
  h.update links (fun m _ e => State.sweepOn_congr (sweeps e) m)
    (.idle (fun e => (State.sweepOn_congr (sweeps e) l).trans (idle e)) awaited)

/-- An engine that sweeps on this link, or on none, takes a sweep on it. -/
theorem engage {l : LinkId} (home : ∀ w, s.sweep e = some w → w.key.link = l) (alone : s.sweepOn (otherEngine e) l = none)
    (sweeps : ∀ f, t.sweep f = if f = e then some v else s.sweep f) (links : ∀ m, m ≠ l → t.link m = s.link m)
    (key : v.key.link = l) (agrees : v.Agrees (t.link l)) : t.SweepsOk := by
  refine h.update links (fun m hm f => ?_) (.swept (e := e) (w := v) ?_ ?_ agrees)
  · by_cases hf : f = e
    · subst hf
      have before : s.sweepOn f m = none := State.sweepOn_eq_none.2 fun w run => home w run ▸ hm.symm
      rw [before, State.sweepOn_eq_none, sweeps, if_pos rfl]
      rintro w ⟨⟩
      exact key ▸ hm.symm
    · exact State.sweepOn_congr ((sweeps f).trans (if_neg hf)) m
  · exact State.sweepOn_eq_some.2 ⟨by rw [sweeps, if_pos rfl], key⟩
  · exact (State.sweepOn_congr ((sweeps _).trans (if_neg (otherEngine_ne e))) l).trans alone

/-- A running sweep goes on under a context of the same key. -/
theorem advance (run : s.sweep e = some w) (sweeps : ∀ f, t.sweep f = if f = e then some v else s.sweep f)
    (links : ∀ m, m ≠ w.key.link → t.link m = s.link m) (key : v.key = w.key) (agrees : v.Agrees (t.link w.key.link)) :
    t.SweepsOk :=
  h.engage (fun x hx => by cases run.symm.trans hx; rfl) (h.of_run run).1 sweeps links (by rw [key]) agrees

/-- Where a running sweep has ended, no engine sweeps on its link. -/
theorem idle_of_ended (run : s.sweep e = some w) (ended : ∀ f, t.sweep f = if f = e then none else s.sweep f) (f : EngineId) :
    t.sweepOn f w.key.link = none := by
  obtain rfl | rfl := EngineId.eq_or_other e f
  · exact State.sweepOn_eq_none.2 (by simp [ended])
  · exact (State.sweepOn_congr (by simp [ended, otherEngine_ne]) _).trans (h.of_run run).1

/-- A running sweep ends, under any context of it that the engine's action has brought forward. -/
theorem clearEngine (run : s.sweep e = some w) (key : v.key = w.key) : (s.clearEngine e v).SweepsOk := by
  refine h.update (l := w.key.link) (fun m hm => s.clearEngine_link_other e v (key ▸ hm)) (fun m hm f => ?_)
    (.idle (h.idle_of_ended run fun f => s.clearEngine_sweep e f v) ?_)
  · by_cases hf : f = e
    · subst hf
      have before : s.sweepOn f m = none := State.sweepOn_eq_none.2 fun x hx => by
        cases run.symm.trans hx
        exact hm.symm
      rw [before, State.sweepOn_eq_none.2 (by simp)]
    · exact State.sweepOn_congr (by simp [hf]) m
  · rw [← key, State.clearEngine_link_self]

end State.SweepsOk

end Sys2Proof.Machine
end

section
/-! Every claim of which a command is made keeps the sweeps one to a link (O10). -/

namespace Sys2Proof.Machine

/-- The sweep that awaits an answer runs on the link of the answer. -/
theorem State.link_of_awaiting {s : State} {l : LinkId} {n : Byte} {e : EngineId} {w : Sweep}
    (h : s.awaiting l n = some (e, w)) : w.key.link = l := by
  simp only [State.awaiting] at h
  repeat' split at h
  all_goals simp only [reduceCtorEq, Option.some.injEq, Prod.mk.injEq] at h
  next on _ _ run _ =>
    obtain ⟨rfl, rfl⟩ := h
    obtain ⟨v, runs, same⟩ := State.sweepsOn_iff.1 (State.sweepingEngine_sweepsOn on)
    cases run.symm.trans runs
    exact same

theorem State.idle_of_sweepingEngine {s : State} {l : LinkId} (h : s.sweepingEngine l = none) (e : EngineId) :
    s.sweepOn e l = none := by
  rw [State.sweepingEngine] at h
  split at h
  next => cases h
  next off₀ =>
    split at h
    next => cases h
    next off₁ =>
      rw [← State.sweepsOn_eq_false]
      cases e
      · simpa using off₀
      · simpa using off₁

@[simp] theorem State.clearRequests_link_self (s : State) (l : LinkId) : ((s.clearRequests l).link l).awaited = none := by
  simp [State.clearRequests]

theorem State.clearRequests_link_other (s : State) {l m : LinkId} (h : m ≠ l) : (s.clearRequests l).link m = s.link m := by
  simp [State.clearRequests, State.withLink_link_ne, h, State.removeOut_link_other]

theorem State.quietLink_link_self (s : State) (l : LinkId) :
    (s.quietLink l).link l =
      { (s.removeOut l OutMsg.isWaiting).link l with
        awaited := none, tags := [], hello := none, rx := [], state := .off } := by
  simp [State.quietLink]

theorem State.quietLink_link_other (s : State) {l m : LinkId} (h : m ≠ l) : (s.quietLink l).link m = s.link m := by
  simp [State.quietLink, State.withLink_link_ne, h, State.removeOut_link_other]

theorem State.enterDown_link_other (s : State) {l m : LinkId} (h : m ≠ l) : (s.enterDown l).link m = s.link m := by
  simp [State.enterDown, State.withLink_link_ne, h]

theorem State.startReceiver_link_other (s : State) {l m : LinkId} (h : m ≠ l) : (s.startReceiver l).link m = s.link m := by
  simp [State.startReceiver, State.withLink_link_ne, h]

theorem State.resetLink_link_other (s : State) {l m : LinkId} (h : m ≠ l) : (s.resetLink l).link m = s.link m := by
  simp only [State.resetLink]
  split <;>
    simp [State.withLink_link_ne, h, State.departUp_link_other, State.enterDown_link_other, State.startReceiver_link_other,
      State.removeOut_link_other]

theorem State.resetLink_awaited (s : State) (l : LinkId) (quiet : (s.link l).awaited = none) :
    ((s.resetLink l).link l).awaited = none := by
  simp only [State.resetLink, Link.afterFullReset]
  split <;> simp [State.departUp_link_self, State.enterDown, State.startReceiver, quiet]

namespace State.SweepsOk

variable {s t : State} {e : EngineId} {w v : Sweep} (h : s.SweepsOk)
include h

/-- No engine sweeps on a link that is not UP. -/
theorem idle_of_not_up {l : LinkId} (down : (s.link l).state ≠ .up) (e : EngineId) : s.sweepOn e l = none :=
  State.sweepOn_eq_none.2 fun _ run on => down (on ▸ (h.of_run run).2.up)

/-- Some items of a link other than its state and its awaited number have changed. -/
theorem withLink (l : LinkId) {lk : Link} (state : lk.state = (s.link l).state) (awaited : lk.awaited = (s.link l).awaited) :
    (s.withLink l lk).SweepsOk := by
  refine h.frame ⟨by simp, fun m => ?_⟩
  rw [State.withLink_link_eq]
  split
  next hm => exact hm ▸ ⟨state, awaited⟩
  next => exact ⟨rfl, rfl⟩

/-! ## Requests and ends of a sweep -/

theorem stopEngine (run : s.sweep e = some w) : (s.stopEngine e w).SweepsOk := by
  have removed : (s.removeOut w.key.link OutMsg.isCalRequest).SweepsOk := h.frame (by simp)
  exact removed.clearEngine (by simpa using run) rfl

theorem makeRequest (run : s.sweep e = some w) (key : v.key = w.key) (level : v.restarts = v.level.val) :
    (s.makeRequest e v).SweepsOk := by
  refine h.advance (v := { v with mode := .measure, awaited := some (s.link v.key.link).sequence, timer := .stopped }) run
    (fun f => by simp [State.makeRequest, State.withSweep_sweep_eq]) (fun m hm => ?_) key ?_
  · simp [State.makeRequest, State.withLink_link_ne, key, hm]
  · rw [← key]
    refine ⟨?_, by simp [State.makeRequest], level, nofun⟩
    simpa [State.makeRequest, key] using (h.of_run run).2.up

theorem startRun (run : s.sweep e = some w) (key : v.key = w.key) (level : v.restarts = v.level.val) :
    (s.startRun e v).SweepsOk :=
  h.makeRequest run key level

theorem endFailed (run : s.sweep e = some w) (key : v.key = w.key) (reason : FailReason) : (s.endFailed e v reason).SweepsOk := by
  have cleared := h.clearEngine run key
  simp only [State.endFailed]
  split
  · exact cleared
  · exact cleared.frame (by simp)

theorem endCommitted (run : s.sweep e = some w) (key : v.key = w.key) (x : Values) : (s.endCommitted e v x).SweepsOk := by
  have cleared := h.clearEngine run key
  simp only [State.endCommitted]
  split
  · exact cleared
  · exact cleared.frame (by simp)

theorem computeAndEnd (run : s.sweep e = some w) (key : v.key = w.key) : (s.computeAndEnd e v).SweepsOk := by
  simp only [State.computeAndEnd]
  split
  next x _ => exact h.endCommitted run key x
  next reason _ => exact h.endFailed run key reason

theorem checkPartner (run : s.sweep e = some w) : (s.checkPartner e w).SweepsOk := by
  simp only [State.checkPartner]
  split
  · exact h.makeRequest run rfl (h.of_run run).2.level
  · exact h.endFailed run rfl .invalid

/-! ## Links that leave UP -/

theorem sweepEnded (l : LinkId) : (s.sweepEnded l).SweepsOk ∧ ∀ e, (s.sweepEnded l).sweepOn e l = none := by
  cases on : s.sweepingEngine l with
  | none =>
    rw [State.sweepEnded_quiet on]
    exact ⟨h, State.idle_of_sweepingEngine on⟩
  | some e =>
    obtain ⟨w, run, rfl⟩ := State.sweepsOn_iff.1 (State.sweepingEngine_sweepsOn on)
    rw [State.sweepEnded_sweeping on run]
    exact ⟨(h.stopEngine run).frame (by simp [State.endLinkFailed]),
      h.idle_of_ended run fun f => s.endLinkFailed_sweep e f w⟩

theorem leaveUp (l : LinkId) (reason : LinkReason) : (s.leaveUp l reason).SweepsOk := by
  obtain ⟨ended, idle⟩ := h.sweepEnded l
  rw [State.leaveUp_eq]
  exact ended.relink idle (by simp) (fun m hm => (s.sweepEnded l).departUp_link_other l reason hm)
    (by simp [State.departUp_link_self])

theorem protocolFault (l : LinkId) : (s.protocolFault l).SweepsOk := by
  have counted : (s.withLink l { s.link l with faults := (s.link l).faults + 1 }).SweepsOk := h.withLink l rfl rfl
  simp only [State.protocolFault]
  split
  · exact counted.leaveUp l .protocol
  · exact counted

theorem abortForDisable (l : LinkId) : (s.abortForDisable l).SweepsOk ∧ ∀ e, (s.abortForDisable l).sweepOn e l = none := by
  cases on : s.sweepingEngine l with
  | none =>
    have same : s.abortForDisable l = s := by simp [State.abortForDisable, on]
    rw [same]
    exact ⟨h, State.idle_of_sweepingEngine on⟩
  | some e =>
    obtain ⟨w, run, rfl⟩ := State.sweepsOn_iff.1 (State.sweepingEngine_sweepsOn on)
    have aborted : s.abortForDisable w.key.link =
        ((s.stopEngine e w).setStanding w.slot (.waiting w.cause)).emit (w.endNotice e .aborted false) := by
      simp [State.abortForDisable, on, run]
    rw [aborted]
    exact ⟨(h.stopEngine run).frame (by simp), h.idle_of_ended run fun f => by simp⟩

theorem takeOff {l : LinkId} (idle : ∀ e, s.sweepOn e l = none) :
    (((s.dropLinkEntries l).quietLink l).emit (hostNotice l .off)).nextDraw.SweepsOk :=
  h.relink idle (by simp) (fun m hm => by simp [State.quietLink_link_other _ hm]) (by simp [State.quietLink_link_self])

theorem disableLink (l : LinkId) : (s.disableLink l).SweepsOk := by
  have enabled : (s.enableLink l false).SweepsOk := h.frame (by simp)
  simp only [State.disableLink]
  split
  next => exact enabled
  next down => exact enabled.takeOff (enabled.idle_of_not_up (by simp [down]))
  next =>
    obtain ⟨aborted, idle⟩ := enabled.abortForDisable l
    exact aborted.takeOff idle

theorem reenableLink (l : LinkId) : (s.reenableLink l).SweepsOk := by
  simp only [State.reenableLink]
  split
  next off =>
    have idle := h.idle_of_not_up (l := l) (by simp [off])
    refine h.relink idle (by simp) (fun m hm => ?_) ?_
    · simp [State.enterDown_link_other _ hm, State.startReceiver_link_other _ hm]
    · simpa [State.enterDown, State.startReceiver] using (h.linkOk l).awaited_of_idle idle
  next => exact h.frame (by simp)

/-! ## Answers of the front end and timers -/

theorem acceptAnswer (run : s.sweep e = some w) : (s.acceptAnswer w.key.link e w).SweepsOk := by
  obtain ⟨up, -, level, -⟩ := (h.of_run run).2
  refine h.advance (v := { w with awaited := none, timer := .stopped }) run
    (fun f => by simp [State.acceptAnswer, State.withSweep_sweep_eq]) (fun m hm => ?_) rfl ⟨?_, ?_, level, fun _ => rfl⟩
  · simp [State.acceptAnswer, State.withLink_link_ne, hm]
  · simpa [State.acceptAnswer] using up
  · simp [State.acceptAnswer]

theorem saturatedPoint (run : s.sweep e = some w) : (s.saturatedPoint e w).SweepsOk := by
  have level := (h.of_run run).2.level
  simp only [State.saturatedPoint]
  split
  next below =>
    have next : (w.level + 1).val = w.level.val + 1 := by
      have small : w.level.val < 3 := level ▸ below
      exact Fin.val_add_one_of_lt (Fin.lt_def.2 small)
    exact h.startRun run rfl (by rw [next, level])
  next => exact h.endFailed run rfl .saturated

theorem actOnResult (run : s.sweep e = some w) (c : Condition) (first second : Word) :
    (s.actOnResult e w c first second).SweepsOk := by
  have level := (h.of_run run).2.level
  simp only [State.actOnResult]
  split
  next =>
    cases c with
    | good => exact h.startRun run rfl level
    | saturated => exact h.endFailed run rfl .saturated
    | invalid => exact h.endFailed run rfl .invalid
  next k _ =>
    cases c with
    | good =>
      simp only [State.pointResult, State.goodPoint]
      (repeat' split)
      · exact h.makeRequest run rfl level
      · exact h.computeAndEnd run rfl
      · exact h.endFailed run rfl .invalid
    | saturated => exact h.saturatedPoint run
    | invalid => exact h.endFailed run rfl .invalid

/-- The answer that a sweep awaits is accepted: the engine goes on from a state that awaits none. -/
theorem accepted {l : LinkId} {n : Byte} (found : s.awaiting l n = some (e, w)) :
    (s.acceptAnswer l e w).SweepsOk
      ∧ (s.acceptAnswer l e w).sweep e = some { w with awaited := none, timer := .stopped } := by
  refine ⟨?_, by simp [State.acceptAnswer]⟩
  obtain rfl := State.link_of_awaiting found
  exact h.acceptAnswer (Kept.sweep_of_awaiting found)

theorem calResult (l : LinkId) (n c : Byte) (first second : Word) : (s.calResult l n c first second).SweepsOk := by
  simp only [State.calResult]
  split
  next => exact h
  next e w found =>
    obtain ⟨ok, run⟩ := h.accepted found
    exact ok.actOnResult run _ first second

theorem actOnDecline (run : s.sweep e = some w) (none' : w.awaited = none) : (s.actOnDecline e w).SweepsOk := by
  obtain ⟨up, awaited, level, -⟩ := (h.of_run run).2
  simp only [State.actOnDecline]
  split
  · exact h.endFailed run rfl .declined
  · exact h.advance run (s.withSweep_sweep_eq e · _) (by simp) rfl ⟨by simpa using up, by simpa using awaited, level, fun _ => none'⟩

theorem calDeclined (l : LinkId) (n : Byte) : (s.calDeclined l n).SweepsOk := by
  simp only [State.calDeclined]
  split
  next => exact h
  next e w found =>
    obtain ⟨ok, run⟩ := h.accepted found
    exact ok.actOnDecline run rfl

theorem requestTimeout (run : s.sweep e = some w) : (s.requestTimeout e w).SweepsOk := by
  obtain ⟨up, -, level, -⟩ := (h.of_run run).2
  simp only [State.requestTimeout]
  generalize ht : State.withSweep _ e _ = t
  have counted : t.SweepsOk := by
    refine h.advance (v := { w with awaited := none, timer := .stopped }) run (fun f => by simp [← ht, State.withSweep_sweep_eq])
      (fun m hm => by simp [← ht, State.withLink_link_ne, hm]) rfl ⟨?_, by simp [← ht], level, fun _ => rfl⟩
    simpa [← ht] using up
  have run' : t.sweep e = some { w with awaited := none, timer := .stopped } := by simp [← ht]
  (repeat' split)
  · exact counted.leaveUp _ .silent
  · exact counted.makeRequest run' rfl level
  · exact counted.endFailed run' rfl .timeout

theorem sentEffects (l : LinkId) (m : OutMsg) : (s.sentEffects l m).SweepsOk := by
  simp only [State.sentEffects]
  (repeat' split)
  · exact h
  · exact h
  · exact h.withLink l rfl rfl
  next e w found =>
    have run := Kept.sweep_of_awaiting found
    obtain ⟨up, awaited, level, wait⟩ := (h.of_run run).2
    exact h.advance run (s.withSweep_sweep_eq e · _) (by simp) rfl ⟨by simpa using up, by simpa using awaited, level, wait⟩
  · exact h

theorem frameSent (l : LinkId) : (s.frameSent l).SweepsOk := by
  simp only [State.frameSent]
  split
  · exact h
  next m rest _ =>
    have left : (s.withLink l { s.link l with out := rest, txLast := m.body.frame }).SweepsOk := h.withLink l rfl rfl
    exact left.sentEffects l m

/-! ## Dispatch -/

theorem offerDispatch (e : EngineId) : (s.offerDispatch e).SweepsOk := by
  simp only [State.offerDispatch]
  (repeat' split)
  · exact h
  next idle _ q chosen =>
    have eligible := List.find?_some chosen
    simp only [State.eligible, Bool.and_eq_true, beq_iff_eq, Bool.not_eq_true', State.sweepsOn_eq_false] at eligible
    obtain ⟨up, alone⟩ := eligible
    have none' (f : EngineId) : s.sweepOn f q.key.link = none := by
      obtain rfl | rfl := EngineId.eq_or_other e f
      · exact State.sweepOn_eq_none.2 (by simp [idle])
      · exact alone
    refine h.engage (e := e) (v := s.newSweep q) (by simp [idle]) alone ?_ (by simp) rfl ⟨by simpa using up, ?_, rfl, nofun⟩
    · simp [State.dispatchEntry, State.withSweep_sweep_eq]
    · exact (congrArg Link.awaited (by simp)).trans ((h.linkOk q.key.link).awaited_of_idle none')
  · exact h

theorem consider : s.consider.SweepsOk := by
  have served := (h.offerDispatch .se0).offerDispatch .se1
  exact served.frame (by simp [State.consider])

/-! ## Requests -/

omit h in
theorem takeRequest {act : List Byte → State → Answer}
    (keeps : ∀ {s : State} body, s.SweepsOk → (act body s).state.SweepsOk) (kind : Byte) (body : List Byte)
    (h : s.SweepsOk) : (s.takeRequest kind body act).SweepsOk := by
  have begun : s.beginRequest.SweepsOk := h.frame (by simp)
  simp only [State.takeRequest]
  split
  · exact (keeps body begun).frame (by simp)
  · exact h

theorem withdraw (slot : Nat) (r : Record) (o : SweepOutcome) : (s.withdraw slot r o).SweepsOk := by
  simp only [State.withdraw]
  (repeat' split)
  · exact h.frame (by simp)
  next run => exact (h.stopEngine run).frame (by simp [State.endStopped])
  · exact h
  · exact h

/-- A marking pass by a marking that changes at most table, queue and what is due. -/
theorem markPass {mark : State → Nat → Record → State × Option RefreshAction}
    (shape : ∀ s slot r, ∃ q t c, (mark s slot r).1 = ((s.withQueue q).withTable t).withConsider c) (slots : List Nat) :
    (s.markPass mark slots).1.SweepsOk := by
  obtain ⟨q, t, c, passed⟩ := State.markPass_frame mark shape slots s
  rw [passed]
  exact h.frame (by simp)

theorem actCreate (body : List Byte) : (actCreate body s).state.SweepsOk := by
  have claim (key : Key) (policy : Policy) (pin : Bool) (values : Option Values) :
      (s.createClaim key policy pin values).state.SweepsOk := by
    simp only [State.createClaim]
    (repeat' split) <;> exact h.frame (by simp)
  simp only [Machine.actCreate]
  (repeat' split)
  · exact h
  · exact h
  · exact h
  · exact claim _ _ _ _
  · exact claim _ _ _ _
  · exact h

theorem actLoad (body : List Byte) : (actLoad body s).state.SweepsOk := by
  simp only [Machine.actLoad]
  (repeat' split)
  · exact h
  · exact h
  · exact h
  · exact Kept.onRecord _ (fun slot r _ => (h.withdraw slot r .superseded).frame (by simp)) h

theorem actRetire (body : List Byte) : (actRetire body s).state.SweepsOk :=
  Kept.keyRequest body (fun slot r _ => (h.withdraw slot r .aborted).frame (by simp)) h

theorem setPolicyClaim (slot : Nat) (r : Record) (policy : Policy) (pin : Bool) :
    (s.setPolicyClaim slot r policy pin).SweepsOk := by
  simp only [State.setPolicyClaim]
  split
  · exact (h.withdraw slot r .superseded).frame (by simp [State.makeFixed])
  · exact h.frame (by simp)
  · exact h.frame (by simp)

theorem actSetPolicy (body : List Byte) : (actSetPolicy body s).state.SweepsOk := by
  simp only [Machine.actSetPolicy]
  (repeat' split)
  · exact h
  · exact h
  · exact Kept.onRecord _ (fun slot r _ => h.setPolicyClaim slot r _ _) h
  · exact h

theorem actRefresh (body : List Byte) : (actRefresh body s).state.SweepsOk := by
  refine Kept.keyRequest body (fun slot r _ => ?_) h
  have claimed : (s.refreshClaim slot r).1.SweepsOk := h.frame (by simp)
  split
  next => exact h
  next =>
    split
    next => exact h
    next =>
      split
      next s' a found => simpa only [found] using claimed
      next => exact h

theorem actRefreshScope (body : List Byte) : (actRefreshScope body s).state.SweepsOk := by
  simp only [Machine.actRefreshScope]
  (repeat' split)
  · exact h
  · exact h
  · exact h
  · exact h.markPass (State.mark_shape .host) _

theorem driftAlert (l : LinkId) (channels tones : Byte) : (s.driftAlert l channels tones).SweepsOk :=
  h.markPass State.markAlert_shape _

theorem actTonePlanSet (body : List Byte) : (actTonePlanSet body s).state.SweepsOk := by
  have written (store : Store) : (s.withStore store).SweepsOk := h.frame (by simp)
  simp only [Machine.actTonePlanSet]
  (repeat' split)
  · exact h
  · exact h
  · exact (written _).markPass State.markAlert_shape _
  · exact written _
  · exact h

theorem actLevelSet (body : List Byte) : (actLevelSet body s).state.SweepsOk := by
  simp only [Machine.actLevelSet]
  (repeat' split) <;> exact h.frame (by simp)

theorem actConfigSet (body : List Byte) : (actConfigSet body s).state.SweepsOk := by
  simp only [Machine.actConfigSet]
  (repeat' split) <;> exact h.frame (by simp)

theorem actAliasSet (body : List Byte) : (actAliasSet body s).state.SweepsOk := by
  simp only [Machine.actAliasSet]
  (repeat' split) <;> exact h.frame (by simp)

theorem actAliasClear (body : List Byte) : (actAliasClear body s).state.SweepsOk := by
  simp only [Machine.actAliasClear, State.indexRequest]
  (repeat' split) <;> exact h.frame (by simp)

theorem actLinkControl (body : List Byte) : (actLinkControl body s).state.SweepsOk := by
  simp only [Machine.actLinkControl]
  (repeat' split)
  · exact h
  · exact h
  · exact h
  · exact h.reenableLink _
  · exact h.disableLink _

/-! ### SOFT_RESET -/

theorem haltEngine (e : EngineId) : (s.haltEngine e).SweepsOk := by
  simp only [State.haltEngine]
  split
  next run => exact h.stopEngine run
  next => exact h

end State.SweepsOk

/-- The sweeps are one to a link, and none runs: where SOFT_RESET has halted both engines (R116). -/
structure State.Halted (s : State) : Prop where
  sweepsOk : s.SweepsOk
  idle : ∀ e, s.sweep e = none

namespace State.Halted

variable {s t : State}

theorem sweepOn (h : s.Halted) (l : LinkId) (e : EngineId) : s.sweepOn e l = none := State.sweepOn_eq_none.2 (by simp [h.idle e])

/-- One link has changed, and awaits none. -/
theorem relink (h : s.Halted) {l : LinkId} (sweeps : ∀ e, t.sweep e = s.sweep e) (links : ∀ m, m ≠ l → t.link m = s.link m)
    (awaited : (t.link l).awaited = none) : t.Halted :=
  ⟨h.sweepsOk.relink (h.sweepOn l) sweeps links awaited, fun e => (sweeps e).trans (h.idle e)⟩

theorem frame (h : s.Halted) (same : (∀ e, t.sweep e = s.sweep e)
    ∧ ∀ l, (t.link l).state = (s.link l).state ∧ (t.link l).awaited = (s.link l).awaited) : t.Halted :=
  ⟨h.sweepsOk.frame same, fun e => (same.1 e).trans (h.idle e)⟩

theorem clearRequests (h : s.Halted) (l : LinkId) : (s.clearRequests l).Halted :=
  h.relink (by simp) (fun _ hm => s.clearRequests_link_other hm) (by simp)

theorem resetLink (h : s.Halted) (l : LinkId) : (s.resetLink l).Halted :=
  h.relink (by simp) (fun _ hm => s.resetLink_link_other hm)
    (s.resetLink_awaited l ((h.sweepsOk.linkOk l).awaited_of_idle (h.sweepOn l)))

theorem softResetTable (h : s.SweepsOk) : s.softResetTable.Halted := by
  have halted : ((s.haltEngine .se0).haltEngine .se1).Halted :=
    ⟨(h.haltEngine .se0).haltEngine .se1, fun e => by cases e <;> simp⟩
  have cleared := (((halted.clearRequests 0).clearRequests 1).clearRequests 2).clearRequests 3
  exact cleared.frame (by simp [State.softResetTable])

theorem softResetFull (h : s.SweepsOk) : s.softResetFull.Halted := by
  have fresh : ((((s.softResetTable.withEpochCount 0).withStore Store.defaults).withAliases (Vector.replicate 8 none)).withEpoch
      { length := Params.defaults.epochMs, left := Params.defaults.epochMs }).Halted :=
    (softResetTable h).frame (by simp)
  exact (((fresh.resetLink 0).resetLink 1).resetLink 2).resetLink 3

/-- After power-on reset no engine sweeps and no link awaits a number. -/
theorem reset : State.reset.Halted :=
  have idle (e : EngineId) : State.reset.sweep e = none := by cases e <;> rfl
  ⟨State.sweepsOk_iff.2 fun l =>
    .idle (fun e => State.sweepOn_eq_none.2 (by simp [idle e])) (by fin_cases l <;> rfl), idle⟩

end State.Halted

namespace State.SweepsOk

variable {s t : State} (h : s.SweepsOk)
include h

theorem actSoftReset (body : List Byte) : (actSoftReset body s).state.SweepsOk := by
  simp only [Machine.actSoftReset]
  (repeat' split)
  · exact h
  · exact h
  · exact (State.Halted.softResetFull h).sweepsOk.frame (by simp)
  · exact (State.Halted.softResetTable h).sweepsOk.frame (by simp)

theorem actByKind (kind : Byte) (body : List Byte) : (actByKind kind body s).state.SweepsOk := by
  simp only [Machine.actByKind]
  split
  next act found =>
    simp only [actOf?] at found
    split at found <;> cases found
    · exact h.actCreate body
    · exact h.actLoad body
    · rwa [actRead_state]
    · exact h.actRetire body
    · exact h.actSetPolicy body
    · exact h.actRefresh body
    · exact h.actRefreshScope body
    · rwa [actScan_state]
    · exact h.actAliasSet body
    · exact h.actAliasClear body
    · rwa [actAliasRead_state]
    · exact h.actTonePlanSet body
    · rwa [actTonePlanRead_state]
    · exact h.actLevelSet body
    · rwa [actLevelRead_state]
    · exact h.actConfigSet body
    · rwa [actConfigGet_state]
    · exact h.actLinkControl body
    · rwa [actStatus_state]
    · exact h.actSoftReset body
  next => exact h

/-! ## Frames -/

theorem answerLookup (l : LinkId) (tag : Fin 4) (channel tone gain : Byte) :
    (s.answerLookup l tag channel tone gain).1.SweepsOk :=
  h.frame (by simp)

theorem lookup (l : LinkId) (tag channel tone gain : Byte) : (s.lookup l tag channel tone gain).SweepsOk := by
  simp only [State.lookup]
  (repeat' split)
  · exact h.protocolFault l
  · exact h.protocolFault l
  next t _ _ =>
    have tagged : (s.withLink l { s.link l with tags := (s.link l).tags ++ [t] }).SweepsOk := h.withLink l rfl rfl
    exact (tagged.answerLookup l t channel tone gain).withLink l rfl rfl

theorem helloAck (l : LinkId) (body : List Byte) : (s.helloAck l body).SweepsOk := by
  simp only [State.helloAck]
  (repeat' split)
  · exact h
  · exact h.protocolFault l
  next down _ p _ =>
    have idle := h.idle_of_not_up (l := l) (by simp [down])
    refine h.relink idle (by simp) (fun m hm => ?_) ?_
    · simp [State.train, State.withLink_link_ne, hm, State.removeOut_link_other]
    · simpa [State.train] using (h.linkOk l).awaited_of_idle idle
  next =>
    simp only [State.refusePartner]
    split
    · exact h
    · have reported : (s.withLink l { s.link l with refusalReported := true }).SweepsOk := h.withLink l rfl rfl
      exact reported.frame (by simp)

theorem takeUp (l : LinkId) (kind : Byte) (body : List Byte) : (s.takeUp l kind body).SweepsOk := by
  simp only [State.takeUp]
  (repeat' split)
  · exact h.lookup l _ _ _ _
  · exact h.calResult l _ _ _ _
  · exact h.calDeclined l _
  · exact h.driftAlert l _ _
  · exact h.leaveUp l .partner
  · exact h.protocolFault l

theorem takeFrame (l : LinkId) (kind : Byte) (body : List Byte) : (s.takeFrame l kind body).SweepsOk := by
  simp only [State.takeFrame]
  (repeat' split)
  · exact h
  · exact h.helloAck l body
  · exact h
  · exact h.takeUp l kind body

omit h in
theorem arrive {act : State → State} (l : LinkId) (kind : Byte) (body : List Byte)
    (keeps : ∀ {s : State}, s.SweepsOk → (act s).SweepsOk) (h : s.SweepsOk) : (s.arrive l kind body act).SweepsOk := by
  simp only [State.arrive]
  split
  · exact h
  · exact keeps (h.withLink l rfl rfl)

omit h in
theorem arriveUp {act : State → State} (l : LinkId) (kind : Byte) (body : List Byte)
    (keeps : ∀ {s : State}, s.SweepsOk → (act s).SweepsOk) (h : s.SweepsOk) :
    (s.arrive l kind body fun s => s.whenUp l (act s)).SweepsOk :=
  arrive l kind body (fun h => Kept.whenUp l (keeps h) h) h

/-! ## The commands -/

theorem exec {c : Instr} (e : exec c s = .next t) : t.SweepsOk := by
  cases c with
  | powerOnReset csLow =>
    cases e
    exact State.Halted.reset.sweepsOk
  | rstNAsserted =>
    cases e
    exact h.frame (by simp)
  | requestWrite | replyRead | portStatus | commandByteUnknown | retryCountdownExpiry =>
    exact Kept.running h (h.frame (by simp)) e
  | unknownKind kind => exact Kept.running h (takeRequest (fun b h => h.actByKind kind b) _ _ h) e
  | create => exact Kept.running h (takeRequest (fun b h => h.actCreate b) _ _ h) e
  | load => exact Kept.running h (takeRequest (fun b h => h.actLoad b) _ _ h) e
  | read => exact Kept.running h (takeRequest (fun b h => by rwa [actRead_state]) _ _ h) e
  | retire => exact Kept.running h (takeRequest (fun b h => h.actRetire b) _ _ h) e
  | setPolicyFixed | setPolicyAuto | setPolicyRefused =>
    exact Kept.running h (takeRequest (fun b h => h.actSetPolicy b) _ _ h) e
  | refresh => exact Kept.running h (takeRequest (fun b h => h.actRefresh b) _ _ h) e
  | refreshScope => exact Kept.running h (takeRequest (fun b h => h.actRefreshScope b) _ _ h) e
  | scan => exact Kept.running h (takeRequest (fun b h => by rwa [actScan_state]) _ _ h) e
  | aliasSet => exact Kept.running h (takeRequest (fun b h => h.actAliasSet b) _ _ h) e
  | aliasClear => exact Kept.running h (takeRequest (fun b h => h.actAliasClear b) _ _ h) e
  | aliasRead => exact Kept.running h (takeRequest (fun b h => by rwa [actAliasRead_state]) _ _ h) e
  | tonePlanSet => exact Kept.running h (takeRequest (fun b h => h.actTonePlanSet b) _ _ h) e
  | tonePlanRead => exact Kept.running h (takeRequest (fun b h => by rwa [actTonePlanRead_state]) _ _ h) e
  | levelSet => exact Kept.running h (takeRequest (fun b h => h.actLevelSet b) _ _ h) e
  | levelRead => exact Kept.running h (takeRequest (fun b h => by rwa [actLevelRead_state]) _ _ h) e
  | configSet => exact Kept.running h (takeRequest (fun b h => h.actConfigSet b) _ _ h) e
  | configGet => exact Kept.running h (takeRequest (fun b h => by rwa [actConfigGet_state]) _ _ h) e
  | linkControlDisable | linkControlEnable | linkControlRefused =>
    exact Kept.running h (takeRequest (fun b h => h.actLinkControl b) _ _ h) e
  | status => exact Kept.running h (takeRequest (fun b h => by rwa [actStatus_state]) _ _ h) e
  | softResetTable | softResetFull | softResetRefused =>
    exact Kept.running h (takeRequest (fun b h => h.actSoftReset b) _ _ h) e
  | epochExpiry => exact Kept.running h (h.frame (by simp)) e
  | dispatch => exact Kept.running h h.consider e
  | partnerCheck engine =>
    refine Kept.running h ?_ e
    (repeat' split)
    next run _ => exact h.checkPartner run
    · exact h
    · exact h
  | requestTimerExpiry engine =>
    refine Kept.running h ?_ e
    (repeat' split)
    next run _ _ _ => exact h.requestTimeout run
    · exact h
    · exact h
  | waitTimerExpiry engine =>
    refine Kept.running h ?_ e
    (repeat' split)
    next run _ _ _ => exact h.makeRequest run rfl (h.of_run run).2.level
    · exact h
    · exact h
  | helloTimerExpiry link =>
    refine Kept.running h ?_ e
    split
    · exact h.withLink link rfl rfl
    · exact h
  | outboundFrameSent link => exact Kept.running h (h.frameSent link) e
  | frameCheckFailure link | incompleteFrame link =>
    refine Kept.running h ?_ e
    split
    · exact h
    · exact h.withLink link rfl rfl
  | helloAck link body => exact Kept.running h (arrive link _ _ (fun h => h.helloAck link body) h) e
  | lookup link tag channel tone gain => exact Kept.running h (arriveUp link _ _ (fun h => h.lookup link tag channel tone gain) h) e
  | calResult link number condition first second =>
    exact Kept.running h (arriveUp link _ _ (fun h => h.calResult link number condition first second) h) e
  | calDeclined link number => exact Kept.running h (arriveUp link _ _ (fun h => h.calDeclined link number) h) e
  | driftAlert link channels tones => exact Kept.running h (arriveUp link _ _ (fun h => h.driftAlert link channels tones) h) e
  | goodbye link => exact Kept.running h (arriveUp link _ _ (fun h => h.leaveUp link .partner) h) e
  | unknownFrameKind link kind body => exact Kept.running h (arrive link _ _ (fun h => h.takeFrame link kind body) h) e

theorem step (e : step s = .next t) : t.SweepsOk := by
  simp only [Machine.step] at e
  split at e
  · cases e
    exact h
  next rest _ =>
    have popped : ({ s with pending := rest } : State).SweepsOk := h
    exact popped.exec e

end State.SweepsOk

/-- Settles O10: every claim of which a command is made leaves each link without a sweep and a number, or with one sweep that agrees
with it. -/
theorem sweepsStayExclusivePerLink : Obligations.SweepsStayExclusivePerLink := fun _ _ h e => h.step e

end Sys2Proof.Machine
end

section
/-! The offer of a place (O23): the join that it makes, by the queue's length, the cause's section and the newest back entry. -/

namespace Sys2Proof.Machine

theorem Cause.isPriority_iff {c : Cause} : c.isPriority = true ↔ c = .first ∨ c = .requested := by cases c <;> simp [Cause.isPriority]

theorem Cause.not_isPriority_iff {c : Cause} : c.isPriority = false ↔ c = .scheduled ∨ c = .retry := by
  cases c <;> simp [Cause.isPriority]

section
variable {s : State} {slot : Nat} {key : Key} {c : Cause}

/-! ## Offers and joins -/

theorem State.offer_held (off : (s.link key.link).state = .off) : s.offer slot key c = (s, .held) := if_pos off

theorem State.offer_joins (on : (s.link key.link).state ≠ .off) :
    s.offer slot key c = s.join { slot := slot, key := key, cause := c } :=
  if_neg on

variable {e : QEntry}

theorem State.join_room (room : s.queue.length < 64) : s.join e = (s.placeEntry e, .joined) := if_pos room

theorem State.join_displacing (full : 64 ≤ s.queue.length) (first : e.cause.isPriority = true) (back : s.queue.back ≠ []) :
    s.join e = (s.displace.placeEntry e, .joinedDisplacing) := by
  rw [State.join, if_neg (Nat.not_lt.2 full), if_pos (by simp [first, back])]

theorem State.join_fails (full : 64 ≤ s.queue.length) (no : e.cause.isPriority = false ∨ s.queue.back = []) :
    s.join e = (s, .failed) := by
  rw [State.join, if_neg (Nat.not_lt.2 full), if_neg]
  obtain back | empty := no
  · simp [back]
  · simp [empty]

/-! ## The place that an entry takes -/

theorem State.placeEntry_prio (first : e.cause.isPriority = true) :
    s.placeEntry e =
      { s with queue := { s.queue with prio := s.queue.prio ++ [e] }, considerDue := true }.setStanding e.slot (.queued e.cause) := by
  rw [State.placeEntry, if_pos first]
  rfl

theorem State.placeEntry_back (back : e.cause.isPriority = false) :
    s.placeEntry e =
      { s with queue := { s.queue with back := s.queue.back ++ [e] }, considerDue := true }.setStanding e.slot (.queued e.cause) := by
  rw [State.placeEntry, if_neg (by simp [back])]
  rfl

end

/-- Settles O23: the offer holds or joins, and each join is the equation of its queue and its cause's section. -/
theorem offerDecidedByQueue : Obligations.OfferDecidedByQueue := by
  intro s slot key cause e
  refine ⟨State.offer_held, fun on => ?_⟩
  rw [State.offer_joins on]
  refine ⟨fun room first => ?prio, fun room back => ?back, fun newest full last first => ?displacing,
    fun full empty _ => State.join_fails full (.inr empty),
    fun full back => State.join_fails full (.inl (Cause.not_isPriority_iff.2 back))⟩
  case prio => rw [State.join_room room, State.placeEntry_prio (Cause.isPriority_iff.2 first)]
  case back => rw [State.join_room room, State.placeEntry_back (Cause.not_isPriority_iff.2 back)]
  case displacing =>
    have first := Cause.isPriority_iff.2 first
    have some' : s.queue.back ≠ [] := by
      intro empty
      simp [empty] at last
    rw [State.join_displacing full first some', State.placeEntry_prio first, State.Coherent.displace_eq last]
    rfl

end Sys2Proof.Machine
end

section
/-! DISPATCH (O44): an engine is served once it sweeps or finds no eligible entry, and the other engine's dispatch leaves it served. -/

namespace Sys2Proof.Machine

section
variable {s : State} {e : EngineId}

/-- An entry is eligible where its link is UP and carries no sweep of the other engine (R75). -/
theorem State.eligible_iff {q : QEntry} :
    s.eligible e q = true ↔
      (s.link q.key.link).state = .up ∧ ∀ w, s.sweep (otherEngine e) = some w → w.key.link ≠ q.key.link := by
  rw [State.eligible, Bool.and_eq_true, beq_iff_eq, Bool.not_eq_true', State.sweepsOn_eq_false, State.sweepOn_eq_none]

theorem State.not_eligible_iff {q : QEntry} :
    ¬s.eligible e q = true ↔
      (s.link q.key.link).state ≠ .up ∨ ∃ w, s.sweep (otherEngine e) = some w ∧ w.key.link = q.key.link := by
  rw [State.eligible_iff, not_and_or]
  push Not
  rfl

/-! ## One engine -/

/-- A consideration has nothing for the engine: it sweeps, or no entry is eligible for it (R76). -/
def State.Served (s : State) (e : EngineId) : Prop := s.sweep e ≠ none ∨ s.firstEligible e = none

theorem State.firstEligible_none : s.firstEligible e = none ↔ ∀ x ∈ s.queue.entries, ¬s.eligible e x = true :=
  List.find?_eq_none

theorem State.offerDispatch_first {q : QEntry} (idle : s.sweep e = none) (first : s.firstEligible e = some q) :
    s.offerDispatch e = s.dispatchEntry e q := by
  rw [State.offerDispatch, idle, first]

theorem State.offerDispatch_served (h : s.Served e) : s.offerDispatch e = s := by
  rw [State.offerDispatch]
  obtain busy | none' := h
  · obtain ⟨w, run⟩ := Option.ne_none_iff_exists'.1 busy
    rw [run]
  · rw [none']
    split <;> rfl

theorem State.dispatchEntry_sweep (q : QEntry) (f : EngineId) :
    (s.dispatchEntry e q).sweep f = if f = e then some (s.newSweep q) else s.sweep f := by
  simp [State.dispatchEntry, State.withSweep_sweep_eq]

theorem State.dispatchEntry_entries {q x : QEntry} (h : x ∈ (s.dispatchEntry e q).queue.entries) : x ∈ s.queue.entries := by
  simp only [State.dispatchEntry, State.withSweep_queue, State.setStanding_frame, State.withQueue_queue] at h
  obtain prio | back := List.mem_append.1 h
  · exact List.mem_append_left _ (List.mem_of_mem_filter prio)
  · exact List.mem_append_right _ (List.mem_of_mem_filter back)

/-- An offer of dispatch leaves the state, or is the dispatch of an entry to an idle engine. -/
theorem State.offerDispatch_cases (s : State) (e : EngineId) :
    (s.Served e ∧ s.offerDispatch e = s) ∨ ∃ q, s.sweep e = none ∧ s.offerDispatch e = s.dispatchEntry e q := by
  by_cases h : s.Served e
  · exact .inl ⟨h, State.offerDispatch_served h⟩
  · obtain ⟨idle, found⟩ := not_or.1 h
    obtain ⟨q, first⟩ := Option.ne_none_iff_exists'.1 found
    have idle := not_not.1 idle
    exact .inr ⟨q, idle, State.offerDispatch_first idle first⟩

theorem State.served_offerDispatch (s : State) (e : EngineId) : (s.offerDispatch e).Served e := by
  obtain ⟨served, same⟩ | ⟨q, -, dispatched⟩ := s.offerDispatch_cases e
  · rwa [same]
  · rw [dispatched]
    exact .inl (by simp [State.dispatchEntry_sweep])

/-! ## Both engines -/

/-- The other engine's dispatch takes an entry out and occupies a link, so it makes no entry eligible. -/
theorem State.Served.offerDispatch_other (h : s.Served e) : (s.offerDispatch (otherEngine e)).Served e := by
  obtain ⟨-, same⟩ | ⟨q, idle, dispatched⟩ := s.offerDispatch_cases (otherEngine e)
  · rwa [same]
  · rw [dispatched]
    refine h.imp (fun busy => ?_) fun none' => ?_
    · rwa [State.dispatchEntry_sweep, if_neg (otherEngine_ne e).symm]
    · refine State.firstEligible_none.2 fun x hx eligible => ?_
      obtain ⟨up, -⟩ := State.eligible_iff.1 eligible
      have before : s.eligible e x = true := State.eligible_iff.2 ⟨by simpa using up, by simp [idle]⟩
      exact State.firstEligible_none.1 none' x (State.dispatchEntry_entries hx) before

theorem State.Served.withConsider (h : s.Served e) (due : Bool) : (s.withConsider due).Served e := by
  cases e <;> exact h

end

theorem State.served_consider (s : State) (e : EngineId) : s.consider.Served e := by
  refine State.Served.withConsider ?_ false
  cases e with
  | se0 => exact (s.served_offerDispatch .se0).offerDispatch_other
  | se1 => exact State.served_offerDispatch _ .se1

theorem State.consider_consider (s : State) : s.consider.consider = s.consider := by
  rw [State.consider.eq_def s.consider, State.offerDispatch_served (s.served_consider .se0),
    State.offerDispatch_served (s.served_consider .se1)]
  rfl

/-- Settles O44: the first eligible entry is the one that no eligible one precedes, and a consideration leaves both engines served. -/
theorem dispatchServesFirstEligible : Obligations.DispatchServesFirstEligible := by
  refine ⟨fun s e before after q idle order up free passed => ?first, fun s e nothing => ?nothing, fun s running => ⟨?once, ?again⟩⟩
  case first =>
    have first : s.firstEligible e = some q :=
      List.find?_eq_some_iff_append.2 ⟨State.eligible_iff.2 ⟨up, free⟩, before, after, order,
        fun x hx => by simpa using State.not_eligible_iff.2 (passed x hx)⟩
    exact State.offerDispatch_first idle first
  case nothing =>
    refine State.offerDispatch_served (nothing.imp id fun none' => ?_)
    exact State.firstEligible_none.2 fun x hx => State.not_eligible_iff.2 (none' x hx)
  case once => exact whileRunning_of_high running
  case again =>
    intro t considered
    have same : t = s.consider := by
      have := considered.symm.trans (whileRunning_of_high running)
      simpa using this
    have running : t.rstN = true := by simpa [same] using running
    refine (whileRunning_of_high running).trans (congrArg _ ?_)
    rw [same, s.consider_consider]

end Sys2Proof.Machine
end

section
/-! REFRESH_SCOPE by the fields of its body, and the counts of its marking pass (O32). -/

namespace Sys2Proof.Machine

/-! ## Markings bring no record under sweep -/

/-- The slot holds a record that is not SWEEPING. -/
def Table.Unswept (t : Table) (n : Nat) : Prop := ∃ r, Table.get t n = some r ∧ r.standing.isSweeping = false

/-- Every slot that holds a record that is not SWEEPING still holds one. -/
def Table.KeepsUnswept (t u : Table) : Prop := ∀ n, t.Unswept n → u.Unswept n

theorem Table.KeepsUnswept.refl (t : Table) : t.KeepsUnswept t := fun _ h => h

theorem Table.KeepsUnswept.trans {t u v : Table} (h : t.KeepsUnswept u) (h' : u.KeepsUnswept v) : t.KeepsUnswept v :=
  fun n unswept => h' n (h n unswept)

theorem State.setStanding_keepsUnswept (s : State) (slot : Nat) {st : Standing} (hst : st.isSweeping = false) :
    s.table.KeepsUnswept (s.setStanding slot st).table := by
  rintro n ⟨r, found, unswept⟩
  rw [Table.Unswept, State.get_setStanding, found]
  split
  · exact ⟨_, rfl, hst⟩
  · exact ⟨r, rfl, unswept⟩

theorem State.displace_keepsUnswept (s : State) : s.table.KeepsUnswept s.displace.table := by
  simp only [State.displace]
  split
  next e _ => exact State.setStanding_keepsUnswept (s.withQueue _) e.slot rfl
  next => exact .refl _

theorem State.placeEntry_keepsUnswept (s : State) (e : QEntry) : s.table.KeepsUnswept (s.placeEntry e).table :=
  State.setStanding_keepsUnswept (s.withQueue _) e.slot rfl

theorem State.waitAndOffer_keepsUnswept (s : State) (slot : Nat) (key : Key) (cause : Cause) :
    s.table.KeepsUnswept (s.waitAndOffer slot key cause).1.table := by
  refine (s.setStanding_keepsUnswept slot (st := .waiting cause) rfl).trans ?_
  simp only [State.waitAndOffer, State.offer, State.join]
  (repeat' split)
  · exact .refl _
  · exact State.placeEntry_keepsUnswept _ _
  · exact (State.displace_keepsUnswept _).trans (State.placeEntry_keepsUnswept _ _)
  · exact .refl _

theorem State.mark_keepsUnswept (s : State) (m : Marker) (slot : Nat) (r : Record) :
    s.table.KeepsUnswept (s.mark m slot r).1.table := by
  obtain e | ⟨c, -, e⟩ | ⟨-, c, e⟩ := s.mark_cases m slot r <;> rw [e]
  · exact .refl _
  · exact State.setStanding_keepsUnswept (s.withQueue _) slot rfl
  · exact s.waitAndOffer_keepsUnswept slot r.key c

/-! ## The pass and its counts -/

/-- A host's marking of a record that is not SWEEPING answers an action (R15). -/
theorem State.mark_host_ne_none {s : State} {slot : Nat} {r : Record} (unswept : r.standing.isSweeping = false) :
    (s.mark .host slot r).2 ≠ none := by
  cases standing : r.standing with
  | idle => simp [State.mark_idle standing]
  | waiting c => simp [State.mark_waiting standing]
  | queued c =>
    rw [State.mark_queued standing]
    split <;> simp
  | retry n => simp [State.mark_retry_host standing]
  | sweeping e => simp [standing, Standing.isSweeping] at unswept

/-- A host's pass over slots whose records are not SWEEPING answers an action for each. -/
theorem State.markPass_host_actions {slots : List Nat} {s : State} (unswept : ∀ n ∈ slots, s.table.Unswept n) :
    (s.markPass (fun s slot r => s.mark .host slot r) slots).2.length = slots.length
      ∧ none ∉ (s.markPass (fun s slot r => s.mark .host slot r) slots).2 := by
  induction slots generalizing s with
  | nil => simp [State.markPass]
  | cons slot rest ih =>
    rw [List.forall_mem_cons] at unswept
    obtain ⟨⟨r, found, still⟩, unswept⟩ := unswept
    obtain ⟨length, all⟩ := ih (s := (s.mark .host slot r).1) fun n hn => s.mark_keepsUnswept .host slot r n (unswept n hn)
    rw [State.markPass_found found]
    exact ⟨congrArg (· + 1) length, by simp [all, (State.mark_host_ne_none still).symm]⟩

theorem countActions_placed (actions : List (Option RefreshAction)) :
    countActions RefreshAction.placed actions =
      actions.count (some .joined) + actions.count (some .joinedDisplacing) + actions.count (some .promoted) := by
  induction actions with
  | nil => rfl
  | cons a rest ih =>
    rw [countActions, List.countP_cons, ← countActions, ih, List.count_cons, List.count_cons, List.count_cons]
    obtain _ | a := a
    · simp
    · cases a <;> simp [RefreshAction.placed] <;> omega

theorem countActions_kept (actions : List (Option RefreshAction)) :
    countActions (· == .kept) actions = actions.count (some .kept) := by
  refine List.countP_congr fun a _ => ?_
  cases a <;> simp

/-- Each action of a pass places the record, leaves it WAITING or keeps its place (R186). -/
theorem countActions_total {actions : List (Option RefreshAction)} (all : none ∉ actions) :
    countActions RefreshAction.placed actions + countActions RefreshAction.leftWaiting actions
      + countActions (· == .kept) actions = actions.length := by
  induction actions with
  | nil => rfl
  | cons a rest ih =>
    obtain ⟨here, later⟩ := not_or.1 (mt List.mem_cons.2 all)
    have ih := ih later
    simp only [countActions, List.countP_cons, List.length_cons] at ih ⊢
    obtain _ | a := a
    · exact absurd rfl here
    · cases a <;> simp [RefreshAction.placed, RefreshAction.leftWaiting] <;> omega

theorem State.markPass_host_withHost (s : State) (h : HostPort) (slots : List Nat) :
    (s.withHost h).markPass (fun s slot r => s.mark .host slot r) slots =
      ((s.markPass (fun s slot r => s.mark .host slot r) slots).1.withHost h,
        (s.markPass (fun s slot r => s.mark .host slot r) slots).2) := by
  induction slots generalizing s with
  | nil => rfl
  | cons slot rest ih =>
    cases found : Table.get s.table slot with
    | none => rw [State.markPass_absent found, State.markPass_absent (s := s.withHost h) found, ih]
    | some r => rw [State.markPass_found found, State.markPass_found (s := s.withHost h) found, State.mark_withHost, ih]

/-! ## The request by its fields -/

theorem Standing.not_isSweeping_eq (st : Standing) :
    (!st.isSweeping) = (st != .sweeping .se0 && st != .sweeping .se1) := by
  cases st with
  | sweeping e => cases e <;> rfl
  | _ => rfl

section
variable {s : State} {id link channels tones : Byte} {gains : Nat}

/-- The body of a REFRESH_SCOPE (10.2). -/
def scopeBody (id link channels tones : Byte) (gains : Nat) : List Byte := [id, link, channels, tones] ++ bytes2 gains

theorem wordAt_scopeBody (small : gains ≤ 65535) : wordAt (scopeBody id link channels tones gains) 4 = gains := bytes2_read small

theorem actRefreshScope_badKey (beyond : 3 < link.toNat) :
    actRefreshScope (scopeBody id link channels tones gains) s = s.refuse .badKey := by
  have none' : finOf? 4 (byteAt (scopeBody id link channels tones gains) 1).toNat = none := finOf?_none.2 beyond
  rw [actRefreshScope, none']
  rfl

theorem actRefreshScope_badValue {l : LinkId} (named : finOf? 4 link.toNat = some l) (small : gains ≤ 65535)
    (unfit : 64 ≤ tones.toNat ∨ 4096 ≤ gains) :
    actRefreshScope (scopeBody id link channels tones gains) s = s.refuse .badValue := by
  have named : finOf? 4 (byteAt (scopeBody id link channels tones gains) 1).toNat = some l := named
  have masks : (!maskFits (byteAt (scopeBody id link channels tones gains) 3).toNat 6
      || !maskFits (wordAt (scopeBody id link channels tones gains) 4) 12) = true := by
    rw [wordAt_scopeBody small]
    simpa [maskFits, scopeBody, byteAt] using unfit
  rw [actRefreshScope, named]
  simp only [masks]
  rfl

theorem actRefreshScope_marks {l : LinkId} (named : finOf? 4 link.toNat = some l) (tonesFit : tones.toNat < 64)
    (gainsFit : gains < 4096) :
    actRefreshScope (scopeBody id link channels tones gains) s =
      let pass := s.markPass (fun s slot r => s.mark .host slot r) (Table.slotsWhere s.table (inScope l channels tones gains))
      pass.1.accept
        (bytes2 (countActions RefreshAction.placed pass.2) ++ bytes2 (countActions RefreshAction.leftWaiting pass.2)
          ++ bytes2 (countActions (· == .kept) pass.2)) := by
  have named : finOf? 4 (byteAt (scopeBody id link channels tones gains) 1).toNat = some l := named
  have word : wordAt (scopeBody id link channels tones gains) 4 = gains := wordAt_scopeBody (by omega)
  have masks : (!maskFits (byteAt (scopeBody id link channels tones gains) 3).toNat 6 || !maskFits gains 12) = false := by
    simp [maskFits, scopeBody, byteAt, tonesFit, gainsFit]
  rw [actRefreshScope, named]
  simp only [word, masks]
  rfl

end

/-- Settles O32: no marking of the pass brings a record under sweep, so each marked record is answered with one of the six actions that
the three counts share out. -/
theorem refreshScopeCountsItsMarks : Obligations.RefreshScopeCountsItsMarks := by
  refine ⟨fun s id channels tones link gains tonesFit gainsFit ok takes => ?marks,
    fun s id link channels tones gains small takes => ⟨fun beyond => ?badKey, fun within unfit => ?badValue⟩⟩
  case marks =>
    intro marked pass placed left kept
    have slots : Table.slotsWhere s.table (inScope link channels tones gains) = marked := by
      simp only [Table.slotsWhere, inScope, Standing.not_isSweeping_eq, names, namesWide, marked, Bool.and_assoc]
    have unswept : ∀ n ∈ marked, s.table.Unswept n := by
      intro n hn
      obtain ⟨e, he, rfl⟩ := List.mem_map.1 (slots ▸ hn)
      obtain ⟨mem, scope⟩ := List.mem_filter.1 he
      simp only [inScope, Bool.and_eq_true, Bool.not_eq_true'] at scope
      exact ⟨e.2, ok.get mem, scope.2⟩
    obtain ⟨length, all⟩ := State.markPass_host_actions unswept
    have total := countActions_total all
    rw [countActions_placed, countActions_leftWaiting, countActions_kept] at total
    refine ⟨total.trans length, State.whileRunning_takes_quiet (kind := kindRefreshScope) (t := pass.1) takes fun host => ?_⟩
    have named : finOf? 4 (byte link.val).toNat = some link := by rw [finOf?_some, byte_toNat]; omega
    have acts := actRefreshScope_marks (s := s.withHost host) (id := id) (channels := channels) named tonesFit gainsFit
    rw [State.withHost_table, slots, State.markPass_host_withHost] at acts
    simp only [countActions_placed, countActions_leftWaiting, countActions_kept] at acts
    exact acts
  case badKey =>
    exact State.whileRunning_takes_quiet (kind := kindRefreshScope) takes fun host => actRefreshScope_badKey beyond
  case badValue =>
    have named := finOf?_of_lt (n := 4) (x := link.toNat) (by omega)
    exact State.whileRunning_takes_quiet (kind := kindRefreshScope) takes fun host => actRefreshScope_badValue named small unfit

end Sys2Proof.Machine
end

section
/-! LINK_CONTROL DISABLE (O39): the sweep of the link is aborted, its entries leave the queue, the link falls silent. The notices of the
claim are told apart from what it does to the rest of the part. -/

namespace Sys2Proof.Machine

/-! ## The outbound queue of a link that falls silent -/

theorem OutMsg.isWaiting_waits {m : OutMsg} (h : m.isWaiting = true) : m.orphan = false := by simpa [OutMsg.isWaiting] using h

/-- A removal that reaches no message. -/
theorem State.removeOut_none_out (s : State) (l : LinkId) :
    ((s.removeOut l fun _ => false).link l).out = (s.link l).out := by
  simp only [State.removeOut]
  split <;> simp [*]

/-- Of two removals of one claim, the second of everything that waits, at most one message more than before finishes on the wire: both
read the same free value. -/
theorem State.removeOut_length_twice {s u : State} {l : LinkId} {p : OutMsg → Bool}
    (out : (u.link l).out = ((s.removeOut l p).link l).out) (claim : u.freeCount = s.freeCount) :
    ((u.removeOut l OutMsg.isWaiting).link l).out.length ≤ ((s.link l).out.filter (·.orphan)).length + 1 := by
  have few (ms : List OutMsg) :
      ((ms.filter fun m => !p m).filter fun m => !m.isWaiting).length ≤ (ms.filter (·.orphan)).length := by
    rw [List.filter_filter]
    refine (List.monotone_filter_right ms fun m hm => ?_).length_le
    simp only [OutMsg.isWaiting, Bool.not_not, Bool.and_eq_true] at hm
    exact hm.1
  cases sending : Config.headInTransmission s.freeCount l with
  | false =>
    rw [u.removeOut_out_idle l _ (by rw [claim, sending]), out, s.removeOut_out_idle l p sending]
    exact (few _).trans (Nat.le_succ _)
  | true =>
    cases e : (s.link l).out with
    | nil => simp [State.removeOut, e, out]
    | cons head rest =>
      rw [s.removeOut_out_sending l p sending e] at out
      rw [u.removeOut_out_sending l _ (by rw [claim, sending]) out, List.length_cons]
      refine Nat.succ_le_succ ((few rest).trans ?_)
      exact ((List.sublist_cons_self head rest).filter _).length_le

/-! ## The sweep of the link -/

/-- The sweep of the link has ended, its record waits with the cause at dispatch (R20, R110); the notice apart. -/
def State.sweepAborted (s : State) (l : LinkId) : State :=
  match s.sweepingEngine l with
  | none => s
  | some e =>
    match s.sweep e with
    | none => s
    | some w => (s.stopEngine e w).setStanding w.slot (.waiting w.cause)

/-- The SWEEP_END notices of the sweeps on the link (R108). -/
def State.abortNotices (s : State) (l : LinkId) : List Notice :=
  [EngineId.se0, .se1].filterMap fun e =>
    match s.sweep e with
    | some w => if w.key.link = l then some (w.endNotice e .aborted false) else none
    | none => none

section
variable {s : State} {l : LinkId}

theorem State.sweepAborted_quiet (quiet : s.sweepingEngine l = none) : s.sweepAborted l = s := by
  simp [State.sweepAborted, quiet]

theorem State.sweepAborted_sweeping {e : EngineId} {w : Sweep} (on : s.sweepingEngine l = some e) (run : s.sweep e = some w) :
    s.sweepAborted l = (s.stopEngine e w).setStanding w.slot (.waiting w.cause) := by
  simp [State.sweepAborted, on, run]

theorem State.abortNotices_eq (s : State) (l : LinkId) :
    s.abortNotices l = [EngineId.se0, .se1].filterMap fun e => (s.sweepOn e l).map fun w => w.endNotice e .aborted false := by
  refine List.filterMap_congr fun e _ => ?_
  rw [State.sweepOn]
  cases s.sweep e with
  | none => rfl
  | some w => by_cases on : w.key.link = l <;> simp [on]

theorem State.SweepsOk.abortNotices (ok : s.SweepsOk) {e : EngineId} {w : Sweep} (run : s.sweep e = some w) :
    s.abortNotices w.key.link = [w.endNotice e .aborted false] := by
  have here : s.sweepOn e w.key.link = some w := State.sweepOn_eq_some.2 ⟨run, rfl⟩
  have alone := (ok.of_run run).1
  rw [State.abortNotices_eq]
  cases e with
  | se0 => simp [here, show s.sweepOn .se1 w.key.link = none from alone]
  | se1 => simp [here, show s.sweepOn .se0 w.key.link = none from alone]

theorem State.SweepsOk.abortForDisable_eq (ok : s.SweepsOk) (l : LinkId) :
    s.abortForDisable l = (s.sweepAborted l).withHost (s.host.emitted s.params.noticeMask (s.abortNotices l)) := by
  cases on : s.sweepingEngine l with
  | none =>
    have none' : s.abortNotices l = [] := by simp [State.abortNotices_eq, State.idle_of_sweepingEngine on]
    rw [State.sweepAborted_quiet on, none', State.abortForDisable, on]
    rfl
  | some e =>
    obtain ⟨w, run, rfl⟩ := State.sweepsOn_iff.1 (State.sweepingEngine_sweepsOn on)
    rw [State.sweepAborted_sweeping on run, ok.abortNotices run, State.abortForDisable, on]
    simp only [run, State.emit_eq, State.setStanding_frame, State.stopEngine_frame]

/-- `State.sweepAborted` changes at most: table, se0, se1, links, considerDue. -/
@[simp] theorem State.sweepAborted_frame (s : State) (l : LinkId) :
    (s.sweepAborted l).poolFree = s.poolFree ∧ (s.sweepAborted l).epochCount = s.epochCount
      ∧ (s.sweepAborted l).epoch = s.epoch ∧ (s.sweepAborted l).queue = s.queue ∧ (s.sweepAborted l).aliases = s.aliases
      ∧ (s.sweepAborted l).host = s.host ∧ (s.sweepAborted l).store = s.store ∧ (s.sweepAborted l).rstN = s.rstN
      ∧ (s.sweepAborted l).freeCount = s.freeCount ∧ (s.sweepAborted l).pending = s.pending
      ∧ (s.sweepAborted l).params = s.params := by
  simp only [State.sweepAborted]
  (repeat' split) <;> simp [State.stopEngine]

theorem State.sweepAborted_withHost (s : State) (h : HostPort) (l : LinkId) :
    (s.withHost h).sweepAborted l = (s.sweepAborted l).withHost h := by
  have same : (s.withHost h).sweepingEngine l = s.sweepingEngine l := rfl
  cases on : s.sweepingEngine l with
  | none => rw [State.sweepAborted_quiet on, State.sweepAborted_quiet (same.trans on)]
  | some e =>
    obtain ⟨w, run, -⟩ := State.sweepsOn_iff.1 (State.sweepingEngine_sweepsOn on)
    rw [State.sweepAborted_sweeping on run, State.sweepAborted_sweeping (same.trans on) ((s.withHost_sweep h e).trans run),
      State.stopEngine_withHost]
    rfl

/-- What the end of its sweep leaves of a link that is disabled. -/
structure State.ReadyToQuiet (s u : State) (l : LinkId) : Prop where
  others : ∀ m, m ≠ l → u.link m = s.link m
  rest : { u.link l with awaited := (s.link l).awaited, out := (s.link l).out } = s.link l
  out : ∃ p : OutMsg → Bool, (∀ m, p m = true → m.orphan = false) ∧ (u.link l).out = ((s.removeOut l p).link l).out

theorem State.readyToQuiet_sweepAborted (s : State) (l : LinkId) : s.ReadyToQuiet (s.sweepAborted l) l := by
  cases on : s.sweepingEngine l with
  | none =>
    rw [State.sweepAborted_quiet on]
    exact ⟨fun _ _ => rfl, rfl, fun _ => false, nofun, (s.removeOut_none_out l).symm⟩
  | some e =>
    obtain ⟨w, run, rfl⟩ := State.sweepsOn_iff.1 (State.sweepingEngine_sweepsOn on)
    have link (m : LinkId) : (s.sweepAborted w.key.link).link m = (s.stopEngine e w).link m := by
      simp [State.sweepAborted_sweeping on run]
    refine ⟨fun m other => (link m).trans (s.stopEngine_link_other e w other), ?_, OutMsg.isCalRequest,
      fun _ => OutMsg.isCalRequest_waits, ?_⟩
    · rw [link]
      exact s.stopEngine_link_rest e w
    · rw [link, s.stopEngine_out e w]

theorem State.SweepsOk.sweepAborted_sweep (ok : s.SweepsOk) (l : LinkId) (f : EngineId) :
    (s.sweepAborted l).sweep f = if s.sweepsOn f l then none else s.sweep f := by
  cases on : s.sweepingEngine l with
  | none =>
    have off : s.sweepsOn f l = false := State.sweepsOn_eq_false.2 (State.idle_of_sweepingEngine on f)
    rw [State.sweepAborted_quiet on, off]
    rfl
  | some e =>
    obtain ⟨w, run, rfl⟩ := State.sweepsOn_iff.1 (State.sweepingEngine_sweepsOn on)
    rw [State.sweepAborted_sweeping on run]
    obtain rfl | rfl := EngineId.eq_or_other e f
    · simp [State.sweepsOn_iff.2 ⟨w, run, rfl⟩]
    · have off : s.sweepsOn (otherEngine e) w.key.link = false := State.sweepsOn_eq_false.2 (ok.of_run run).1
      simp [off, otherEngine_ne]

/-! ## The records -/

/-- The record of a sweep on the link waits with the cause at dispatch. -/
theorem State.SweepsOk.sweepAborted_get_swept (ok : s.SweepsOk) {e : EngineId} {w : Sweep} (run : s.sweep e = some w)
    {r : Record} (found : Table.get s.table w.slot = some r) :
    Table.get (s.sweepAborted w.key.link).table w.slot = some { r with standing := .waiting w.cause } := by
  rw [State.sweepAborted_sweeping (State.sweepingEngine_of_sweep ok run) run, State.get_setStanding, if_pos rfl]
  simp [found]

/-- A record that no engine sweeps on the link is as it was. -/
theorem State.sweepAborted_get_other {n : Nat} (away : ∀ e w, s.sweep e = some w → w.key.link = l → n ≠ w.slot) :
    Table.get (s.sweepAborted l).table n = Table.get s.table n := by
  cases on : s.sweepingEngine l with
  | none => rw [State.sweepAborted_quiet on]
  | some e =>
    obtain ⟨w, run, same⟩ := State.sweepsOn_iff.1 (State.sweepingEngine_sweepsOn on)
    rw [State.sweepAborted_sweeping on run, State.get_setStanding, if_neg (away e w run same)]
    simp

theorem State.Coherent.sweepAborted (h : s.Coherent) (ok : s.SweepsOk) (l : LinkId) : (s.sweepAborted l).Coherent := by
  have aborted := coherent_kept.abortForDisable l h
  rw [ok.abortForDisable_eq l] at aborted
  refine coherent_kept.rest ?_ aborted
  exact ⟨rfl, rfl, rfl, rfl⟩

/-- A record whose entry has left the queue with those of its link (R74). -/
def Record.dequeued (r : Record) (l : LinkId) : Record :=
  match r.standing with
  | .queued c => if r.key.link = l then { r with standing := .waiting c } else r
  | _ => r

theorem State.Coherent.dropLinkEntries_get (h : s.Coherent) {n : Nat} {r : Record} (found : Table.get s.table n = some r) :
    Table.get (s.dropLinkEntries l).table n = some (r.dequeued l) := by
  have left : (s.queue.entries.filter fun q => q.key.link == l).filter (fun q => q.slot == n) =
      (entriesFor n (some r)).filter fun q => q.key.link == l := by
    rw [← found, ← (h.slot n).entries, RefreshQueue.at, List.filter_filter, List.filter_filter]
    exact List.filter_congr fun _ _ => Bool.and_comm _ _
  rw [State.dropLinkEntries, State.Coherent.get_waitAll, left, State.withQueue_table, found]
  cases standing : r.standing with
  | queued c => by_cases on : r.key.link = l <;> simp [entriesFor, Standing.queuedCause, Record.dequeued, standing, on]
  | _ => simp [entriesFor, Standing.queuedCause, Record.dequeued, standing]

end

/-! ## The link off -/

/-- The link is off (R156); the notices of the claim and the link enable mask apart. -/
def State.linkOff (s : State) (l : LinkId) : State := (((s.sweepAborted l).dropLinkEntries l).quietLink l).nextDraw

/-- What the link is taken off from: its sweep has ended, its entries have left. -/
def State.linkDropped (s : State) (l : LinkId) : State := (s.sweepAborted l).dropLinkEntries l

theorem State.linkOff_eq (s : State) (l : LinkId) : s.linkOff l = ((s.linkDropped l).quietLink l).nextDraw := rfl

theorem State.readyToQuiet_linkDropped (s : State) (l : LinkId) : s.ReadyToQuiet (s.linkDropped l) l := by
  obtain ⟨others, rest, p, waits, out⟩ := s.readyToQuiet_sweepAborted l
  have link (m : LinkId) : (s.linkDropped l).link m = (s.sweepAborted l).link m := by simp [State.linkDropped]
  exact ⟨fun m hm => (link m).trans (others m hm), by rw [link, rest], p, waits, by rw [link, out]⟩

theorem State.linkOff_link_self (s : State) (l : LinkId) :
    (s.linkOff l).link l =
      { ((s.linkDropped l).removeOut l OutMsg.isWaiting).link l with
        awaited := none, tags := [], hello := none, rx := [], state := .off } := by
  rw [State.linkOff_eq, State.nextDraw_link, State.quietLink_link_self]

theorem State.linkOff_link_other (s : State) {l m : LinkId} (h : m ≠ l) : (s.linkOff l).link m = s.link m := by
  rw [State.linkOff_eq, State.nextDraw_link, State.quietLink_link_other _ h]
  exact (s.readyToQuiet_linkDropped l).others m h

/-- Only frames in transmission are left, one more than before at most, of the message that was at the head (R143). -/
theorem State.linkOff_out (s : State) (l : LinkId) :
    (∀ m ∈ ((s.linkOff l).link l).out, m.orphan = true)
      ∧ ((s.linkOff l).link l).out.length ≤ ((s.link l).out.filter (·.orphan)).length + 1
      ∧ OnlyHeadFinishes (s.link l).out ((s.linkOff l).link l).out := by
  obtain ⟨p, waits, out⟩ := (s.readyToQuiet_linkDropped l).out
  have claim : (s.linkDropped l).freeCount = s.freeCount := by simp [State.linkDropped]
  rw [State.linkOff_link_self]
  refine ⟨fun m hm => ?_, State.removeOut_length_twice out claim,
    State.removeOut_onlyHead_twice waits (fun _ => OutMsg.isWaiting_waits) out claim⟩
  have unmet := State.removeOut_out_unmet _ l OutMsg.isWaiting m hm
  cases finishes : m.orphan with
  | true => rfl
  | false => simp [OutMsg.isWaiting, finishes] at unmet

/-- Partner facts, counter and counts are kept. -/
theorem State.linkOff_link_rest (s : State) (l : LinkId) :
    { (s.linkOff l).link l with
      state := (s.link l).state, awaited := (s.link l).awaited, tags := (s.link l).tags, hello := (s.link l).hello,
      out := (s.link l).out, rx := (s.link l).rx } = s.link l := by
  have removal := (s.linkDropped l).removeOut_link_rest l OutMsg.isWaiting
  have ended := (s.readyToQuiet_linkDropped l).rest
  rw [State.linkOff_link_self]
  generalize ((s.linkDropped l).removeOut l OutMsg.isWaiting).link l = removed at removal ⊢
  rw [← removal] at ended
  generalize (s.linkDropped l).link l = dropped at ended
  generalize s.link l = before at ended ⊢
  cases before
  simp_all

/-- `State.linkOff` changes at most: table, queue, se0, se1, links, considerDue, freeCount. -/
@[simp] theorem State.linkOff_frame (s : State) (l : LinkId) :
    (s.linkOff l).poolFree = s.poolFree ∧ (s.linkOff l).epochCount = s.epochCount ∧ (s.linkOff l).epoch = s.epoch
      ∧ (s.linkOff l).aliases = s.aliases ∧ (s.linkOff l).host = s.host ∧ (s.linkOff l).store = s.store
      ∧ (s.linkOff l).rstN = s.rstN ∧ (s.linkOff l).pending = s.pending := by
  simp [State.linkOff]

theorem State.linkOff_queue (s : State) (l : LinkId) : (s.linkOff l).queue = s.queue.removeLink l := by
  simp [State.linkOff, State.dropLinkEntries]

section
variable {s : State}

theorem State.SweepsOk.linkOff_sweep (ok : s.SweepsOk) (l : LinkId) (e : EngineId) :
    (s.linkOff l).sweep e = if s.sweepsOn e l then none else s.sweep e := by
  simpa [State.linkOff] using ok.sweepAborted_sweep l e

/-- A record after its link has been taken off (R74, R156). -/
def State.recordOff (s : State) (l : LinkId) (r : Record) : Record :=
  match r.standing with
  | .queued c => if r.key.link = l then { r with standing := .waiting c } else r
  | .sweeping e =>
    match s.sweep e with
    | some w => if r.key.link = l then { r with standing := .waiting w.cause } else r
    | none => r
  | _ => r

theorem State.Coherent.linkOff_get (h : s.Coherent) (ok : s.SweepsOk) (l : LinkId) {n : Nat} {r : Record}
    (found : Table.get s.table n = some r) : Table.get (s.linkOff l).table n = some (s.recordOff l r) := by
  have table : (s.linkOff l).table = ((s.sweepAborted l).dropLinkEntries l).table := by simp [State.linkOff]
  have dropped {x : Record} (ended : Table.get (s.sweepAborted l).table n = some x) :
      Table.get (s.linkOff l).table n = some (x.dequeued l) := table ▸ (h.sweepAborted ok l).dropLinkEntries_get ended
  have away (other : ∀ e, r.standing = .sweeping e → r.key.link ≠ l) : Table.get (s.sweepAborted l).table n = some r := by
    rw [State.sweepAborted_get_other, found]
    rintro e w run on rfl
    obtain ⟨x, found', standing, key⟩ := h.swept run
    cases found.symm.trans found'
    exact other e standing (key ▸ on)
  cases standing : r.standing with
  | sweeping e =>
    have sweep := sweepFor_eq_some.2 ⟨r, found, standing, rfl⟩
    rw [← (h.slot n).sweeps, State.sweepAt_eq_some] at sweep
    obtain ⟨w, run, rfl, key⟩ := sweep
    by_cases on : r.key.link = l
    · subst on
      rw [dropped (key ▸ ok.sweepAborted_get_swept run found)]
      simp [State.recordOff, Record.dequeued, standing, run]
    · rw [dropped (away fun _ _ => on)]
      simp [State.recordOff, Record.dequeued, standing, run, on]
  | queued c =>
    rw [dropped (away (by simp [standing]))]
    simp [State.recordOff, Record.dequeued, standing]
  | _ =>
    rw [dropped (away (by simp [standing]))]
    simp [State.recordOff, Record.dequeued, standing]

/-! ## The claim and the request -/

theorem State.withHost_withHost (s : State) (h h' : HostPort) : (s.withHost h).withHost h' = s.withHost h' := rfl

theorem State.nextDraw_withHost (s : State) (h : HostPort) : (s.withHost h).nextDraw = s.nextDraw.withHost h := rfl

theorem State.waitAll_withHost (s : State) (h : HostPort) (entries : List QEntry) :
    (s.withHost h).waitAll entries = (s.waitAll entries).withHost h := by
  induction entries generalizing s with
  | nil => rfl
  | cons q rest ih => exact ih (s.setStanding q.slot (.waiting q.cause))

theorem State.dropLinkEntries_withHost (s : State) (h : HostPort) (l : LinkId) :
    (s.withHost h).dropLinkEntries l = (s.dropLinkEntries l).withHost h :=
  State.waitAll_withHost (s.withQueue _) h _

theorem State.quietLink_withHost (s : State) (h : HostPort) (l : LinkId) :
    (s.withHost h).quietLink l = (s.quietLink l).withHost h := by
  rw [State.quietLink, State.removeOut_withHost]
  rfl

theorem State.disableLink_off {l : LinkId} (off : (s.link l).state = .off) : s.disableLink l = s.enableLink l false := by
  simp [State.disableLink, off]

/-- A link that is not OFF is disabled: a DOWN one has no sweep that would end. -/
theorem State.SweepsOk.disableLink_on (ok : s.SweepsOk) {l : LinkId} (on : (s.link l).state ≠ .off) :
    s.disableLink l =
      (((((s.enableLink l false).abortForDisable l).dropLinkEntries l).quietLink l).emit (hostNotice l .off)).nextDraw := by
  rw [State.disableLink]
  cases state : (s.link l).state with
  | off => exact absurd state on
  | up => rfl
  | down =>
    have enabled : (s.enableLink l false).SweepsOk := ok.frame (by simp)
    have idle := enabled.idle_of_not_up (l := l) (by simp [state])
    have quiet : (s.enableLink l false).sweepingEngine l = none := by
      simp [State.sweepingEngine, State.sweepsOn_eq_false.2 (idle _)]
    rw [State.abortForDisable, quiet]

theorem State.SweepsOk.disableLink_withHost (ok : s.SweepsOk) {l : LinkId} (on : (s.link l).state ≠ .off) (h : HostPort) :
    (s.withHost h).disableLink l =
      ((s.enableLink l false).linkOff l).withHost
        (h.emitted s.params.noticeMask (s.abortNotices l ++ [hostNotice l .off])) := by
  have enabled : (s.enableLink l false).SweepsOk := ok.frame (by simp)
  have hosted : ((s.enableLink l false).withHost h).SweepsOk := enabled.frame (by simp)
  have ok' : (s.withHost h).SweepsOk := ok.frame (by simp)
  have notices : ((s.enableLink l false).withHost h).abortNotices l = s.abortNotices l := rfl
  rw [ok'.disableLink_on on, show (s.withHost h).enableLink l false = (s.enableLink l false).withHost h from rfl,
    hosted.abortForDisable_eq, State.sweepAborted_withHost, notices, State.emit_eq]
  simp only [State.dropLinkEntries_withHost, State.quietLink_withHost]
  have mask : (((s.enableLink l false).sweepAborted l).dropLinkEntries l |>.quietLink l).params = s.params := by simp
  simp only [State.withHost_params, State.withHost_host, State.enableLink_params, mask, HostPort.emitted_emitted,
    State.withHost_withHost, State.nextDraw_withHost, State.linkOff]

theorem actLinkControl_disable {s t : State} {l : LinkId} (id : Byte) (disabled : s.disableLink l = t)
    (off : (t.link l).state = .off) :
    actLinkControl [id, byte l.val, 0x00#8] s = { state := t, status := .ok, payload := [byte l.val, 0x00#8] } := by
  have named : finOf? 4 (byteAt [id, byte l.val, 0x00#8] 1).toNat = some l := by
    rw [finOf?_some, show byteAt [id, byte l.val, 0x00#8] 1 = byte l.val from rfl, byte_toNat]
    omega
  have code : switchOf? (byteAt [id, byte l.val, 0x00#8] 2) = some false := switchOf?_code false
  rw [actLinkControl, named]
  simp only [code, Bool.false_eq_true, if_false, disabled, off]
  rfl

end

/-- Settles O39: the claim takes the link off and emits its notices; the sweep's end and the silence read one free value, and the
record of a sweep or of an entry on the link is the one that the story of its slot names. -/
theorem disableTakesLinkOff : Obligations.DisableTakesLinkOff := by
  intro s id l takes r store
  refine ⟨fun off => ?already, fun on coherent ok => ?disabled⟩
  case already =>
    exact State.whileRunning_takes_quiet (kind := kindLinkControl) (t := s.enableLink l false) takes fun host =>
      actLinkControl_disable id (State.disableLink_off (s := s.withHost host) off) off
  case disabled =>
    obtain ⟨u, hu⟩ : ∃ u, u = s.enableLink l false := ⟨_, rfl⟩
    have link (m : LinkId) : u.link m = s.link m := by simp [hu]
    have sweep (e : EngineId) : u.sweep e = s.sweep e := by simp [hu]
    have sweepsOn (e : EngineId) : u.sweepsOn e l = s.sweepsOn e l := by simp [State.sweepsOn, sweep]
    have enabled : u.SweepsOk := ok.frame (by simp [link, sweep])
    have story : u.Coherent := coherent_kept.rest (by simp [hu]) (State.refreshOk_iff_coherent.1 coherent)
    have silent := u.linkOff_link_self l
    have rest := u.linkOff_link_rest l
    obtain ⟨orphans, few, onlyHead⟩ := u.linkOff_out l
    rw [link] at few onlyHead rest
    have done := State.whileRunning_takes_noticed (kind := kindLinkControl) (t := u.linkOff l) takes fun host =>
      actLinkControl_disable id (hu ▸ ok.disableLink_withHost on host) (congrArg Link.state silent)
    refine ⟨(u.linkOff l).withHost _, done, ?_⟩
    simp only [State.withHost_store, State.withHost_link, State.withHost_queue, State.withHost_table, State.withHost_sweep]
    refine ⟨?store, congrArg Link.state silent, congrArg Link.awaited silent, congrArg Link.tags silent,
      congrArg Link.hello silent, orphans, few, onlyHead, congrArg Link.rx silent, rest,
      fun m other => (u.linkOff_link_other other).trans (link m), ?queue, fun slot x found => ?record, fun e => ?sweeps, rfl, ?frame⟩
    case store => simp [hu, State.enableLink, store]
    case queue => simp [hu, State.linkOff_queue, State.enableLink, RefreshQueue.removeLink]
    case record =>
      have off := story.linkOff_get enabled l (n := slot) (r := x) (by simpa [hu] using found)
      simp only [State.recordOff, sweep] at off
      exact off
    case sweeps => rw [enabled.linkOff_sweep, sweepsOn, sweep]
    case frame => apply State.eq_of_fields <;> simp [hu]

end Sys2Proof.Machine
end

section
/-! CAL_RESULT (O48): an answer is matched by its number, and an accepted result acts by the step and the condition. The matching serves
CAL_DECLINED and the sending of a request as well. -/

namespace Sys2Proof.Machine

/-! ## Matching an answer by its number (R92) -/

section
variable {s : State} {l : LinkId} {number : Byte} {e : EngineId} {w : Sweep}

theorem State.awaiting_none (other : (s.link l).awaited ≠ some number) : s.awaiting l number = none :=
  if_neg fun h => other h.2

/-- Under the invariant of O10, the number that an engine awaits is matched to its sweep. -/
theorem State.SweepsOk.awaiting_some (ok : s.SweepsOk) (run : s.sweep e = some w) (on : w.key.link = l)
    (awaited : w.awaited = some number) : s.awaiting l number = some (e, w) := by
  subst on
  have agrees := (ok.of_run run).2
  rw [State.awaiting, if_pos ⟨agrees.up, agrees.awaited.trans awaited⟩, State.sweepingEngine_of_sweep ok run]
  simp only [run, awaited, if_true]

theorem State.Awaits.up (h : s.Awaits l number e w) : (s.link l).state = .up := by
  obtain ⟨-, ok, run, rfl, -⟩ := h
  exact (ok.of_run run).2.up

/-- An answer arrives: the receiver takes the frame and the number is still matched. -/
theorem State.Awaits.awaiting_receivedOn (h : s.Awaits l number e w) (kind : Byte) (body : List Byte) :
    (s.receivedOn l kind body).awaiting l number = some (e, w) := by
  obtain ⟨-, ok, run, on, awaited⟩ := h
  have received : (s.receivedOn l kind body).SweepsOk := ok.withLink l rfl rfl
  exact received.awaiting_some ((s.withLink_sweep l _ e).trans run) on awaited

theorem State.awaiting_receivedOn_none (other : (s.link l).awaited ≠ some number) (kind : Byte) (body : List Byte) :
    (s.receivedOn l kind body).awaiting l number = none :=
  State.awaiting_none (by rwa [State.receivedOn_link_self])

/-- The engine goes on from an accepted answer awaiting nothing, its timer cancelled (R92). -/
def Sweep.answered (w : Sweep) : Sweep := { w with awaited := none, timer := .stopped }

@[simp] theorem State.acceptAnswer_store (s : State) (l : LinkId) (e : EngineId) (w : Sweep) :
    (s.acceptAnswer l e w).store = s.store := by simp [State.acceptAnswer]

/-! ## The command -/

variable {condition : Byte} {first second : Word}

/-- The body of a CAL_RESULT (10.7). -/
def calResultBody (number condition : Byte) (first second : Word) : List Byte :=
  [number, condition] ++ bytes2 first.toNat ++ bytes2 second.toNat

theorem exec_calResult_up (running : s.rstN = true) (up : (s.link l).state = .up) :
    exec (.calResult l number condition first second) s =
      .next
        ((s.receivedOn l frameCalResult (calResultBody number condition first second)).calResult l number condition first second) :=
  (whileRunning_of_high running).trans (congrArg _ (State.arrive_up up _))

theorem exec_calResult_unawaited (running : s.rstN = true) (up : (s.link l).state = .up) (other : (s.link l).awaited ≠ some number) :
    exec (.calResult l number condition first second) s =
      .next (s.receivedOn l frameCalResult (calResultBody number condition first second)) := by
  rw [exec_calResult_up running up, State.calResult, State.awaiting_receivedOn_none other]

/-- An accepted result acts on the state that has taken the answer. -/
theorem exec_calResult_awaited (h : s.Awaits l number e w) :
    exec (.calResult l number condition first second) s =
      .next
        (((s.receivedOn l frameCalResult (calResultBody number condition first second)).acceptAnswer l e w).actOnResult e w.answered
          (conditionOf condition) first second) := by
  rw [exec_calResult_up h.1 h.up, State.calResult, h.awaiting_receivedOn]
  rfl

end

/-! ## Conditions (R94, R202) -/

section
variable {b : Byte}

theorem conditionOf_good (good : b = 0x00#8) : conditionOf b = .good := if_pos good

theorem conditionOf_saturated (saturated : b = 0x01#8) : conditionOf b = .saturated := saturated ▸ rfl

theorem conditionOf_invalid (good : b ≠ 0x00#8) (saturated : b ≠ 0x01#8) : conditionOf b = .invalid :=
  (if_neg good).trans (if_neg saturated)

end

/-! ## What an accepted result does -/

section
variable {s : State} {e : EngineId} {w : Sweep} {first second : Word}

/-- An INVALID result ends the sweep at every step (R93, R94). -/
theorem State.actOnResult_invalid : s.actOnResult e w .invalid first second = s.endFailed e w .invalid := by
  rw [State.actOnResult]
  split <;> rfl

theorem State.actOnResult_zero_good (zero : w.step = .zero) :
    s.actOnResult e w .good first second =
      s.makeRequest e
        { w with
          zero := some (first.toInt, second.toInt), step := .point 0, runAmplitude := some s.store.levels[w.level],
          retries := 0 } := by
  rw [State.actOnResult, zero]
  rfl

theorem State.actOnResult_zero_saturated (zero : w.step = .zero) :
    s.actOnResult e w .saturated first second = s.endFailed e w .saturated := by
  rw [State.actOnResult, zero]
  rfl

variable {k : Nat} (point : w.step = .point k)
include point

/-- A GOOD point is taken while its phase is a phase (R94). -/
theorem State.actOnResult_point_good (low : second.toNat < 4096) :
    s.actOnResult e w .good first second = s.goodPoint e w k { magnitude := first.toNat, phase := second.toNat } := by
  rw [State.actOnResult, point]
  exact if_pos low

theorem State.actOnResult_point_wide (high : 4096 ≤ second.toNat) :
    s.actOnResult e w .good first second = s.endFailed e w .invalid := by
  rw [State.actOnResult, point]
  exact if_neg (by omega)

theorem State.actOnResult_point_saturated : s.actOnResult e w .saturated first second = s.saturatedPoint e w := by
  rw [State.actOnResult, point]
  rfl

end

section
variable {s : State} {e : EngineId} {w : Sweep}

/-- The last point is followed by the computation, whose values commit and whose reason fails the sweep (R94, R105). -/
theorem State.goodPoint_last {k : Nat} (last : w.plan.pointCount ≤ k + 1) (p : Point) :
    let y : Sweep := { w with points := w.points ++ [p] }
    (∀ v, y.compute s.params.spreadLimit = .ok v → s.goodPoint e w k p = s.endCommitted e y v)
      ∧ (∀ reason, y.compute s.params.spreadLimit = .error reason → s.goodPoint e w k p = s.endFailed e y reason) := by
  intro y
  have computes : s.goodPoint e w k p = s.computeAndEnd e y := if_neg (by omega)
  refine ⟨fun v values => ?_, fun reason failed => ?_⟩
  · rw [computes, State.computeAndEnd, values]
  · rw [computes, State.computeAndEnd, failed]

/-- Below level 3 a SATURATED point restarts the run one level on (R95). -/
theorem State.saturatedPoint_restarts {next : Fin 4} (restarts : w.restarts = w.level.val) (above : w.level.val + 1 = next.val) :
    s.saturatedPoint e w =
      s.makeRequest e
        { w with
          level := next, restarts := w.restarts + 1, points := [], step := .point 0,
          runAmplitude := some s.store.levels[next], retries := 0 } := by
  have level : w.level + 1 = next := by
    rw [Fin.ext_iff, Fin.val_add_one_of_lt (Fin.lt_def.2 (show w.level.val < 3 by omega)), above]
  rw [State.saturatedPoint, if_pos (show w.restarts < 3 by omega), level]
  rfl

theorem State.saturatedPoint_ends (restarts : w.restarts = w.level.val) (top : w.level.val = 3) :
    s.saturatedPoint e w = s.endFailed e w .saturated := if_neg (show ¬w.restarts < 3 by omega)

end

/-- Settles O48: the accepted result acts on the state that took the answer, by the step that the engine awaits and then by the
condition; that the restart count is the level is the invariant of O10. -/
theorem calResultDrivesSweep : Obligations.CalResultDrivesSweep := by
  intro s l number condition first second frame
  refine ⟨exec_calResult_unawaited, fun e w h => ?_⟩
  intro got u x good saturated result
  have acts {c : Condition} (named : conditionOf condition = c) {t : State} (done : u.actOnResult e x c first second = t) : result t :=
    (exec_calResult_awaited h).trans (congrArg _ (named ▸ done))
  have store : u.store = s.store := State.acceptAnswer_store got l e w
  have restarts : x.restarts = x.level.val := (h.2.1.of_run h.2.2.1).2.level
  have invalid (notGood : ¬good) (notSaturated : ¬saturated) : result (u.endFailed e x .invalid) :=
    acts (conditionOf_invalid notGood notSaturated) State.actOnResult_invalid
  refine ⟨fun zero => ?zero, fun k point => ?point⟩
  case zero =>
    refine ⟨fun isGood => ?_, fun isSaturated => ?_, invalid⟩
    · rw [← store]
      exact acts (conditionOf_good isGood) (State.actOnResult_zero_good zero)
    · exact acts (conditionOf_saturated isSaturated) (State.actOnResult_zero_saturated zero)
  case point =>
    intro y
    have taken (isGood : good) (low : second.toNat < 4096) {t : State}
        (done : u.goodPoint e x k { magnitude := first.toNat, phase := second.toNat } = t) : result t :=
      acts (conditionOf_good isGood) ((State.actOnResult_point_good point low).trans done)
    have saturates (isSaturated : saturated) {t : State} (done : u.saturatedPoint e x = t) : result t :=
      acts (conditionOf_saturated isSaturated)
        ((State.actOnResult_point_saturated (w := x) (first := first) (second := second) point).trans done)
    refine ⟨fun isGood low more => taken isGood low (if_pos more), fun isGood low last => ?last,
      fun isGood high => acts (conditionOf_good isGood) (State.actOnResult_point_wide point high),
      fun isSaturated next above => ?restart,
      fun isSaturated top => saturates isSaturated (State.saturatedPoint_ends restarts top), invalid⟩
    case last =>
      obtain ⟨commits, fails⟩ := State.goodPoint_last (s := u) (e := e) (w := x) last
        { magnitude := first.toNat, phase := second.toNat }
      rw [show s.params = u.params from congrArg Store.params store.symm]
      exact ⟨fun v values => taken isGood low (commits v values), fun reason failed => taken isGood low (fails reason failed)⟩
    case restart =>
      rw [← store]
      exact saturates isSaturated (State.saturatedPoint_restarts restarts above)

end Sys2Proof.Machine
end
section
/-! The computation over the points (O49): the phase errors are the congruents of the differences, the folds of the spread are the largest
and the smallest error, and bounds on the errors bound their mean. -/

namespace Sys2Proof.Machine

/-! ## Phase errors (R102) -/

theorem phaseErrors_length (plan : TonePlan) (points : List Point) (k : Nat) : (phaseErrors plan k points).length = points.length := by
  induction points generalizing k with
  | nil => rfl
  | cons p rest ih => simp [phaseErrors, ih]

theorem phaseErrors_getElem? (plan : TonePlan) (points : List Point) (k i : Nat) :
    (phaseErrors plan k points)[i]? = points[i]?.map fun p => wrapPhase ((plan.phaseOf (k + i) : Int) - (p.phase : Int)) := by
  induction points generalizing k i with
  | nil => rfl
  | cons p rest ih =>
    cases i with
    | zero => rfl
    | succ i => simp [phaseErrors, ih, Nat.add_assoc, Nat.add_comm 1 i]

/-- The error of a point is the only number in -2048..2047 that differs from the injected phase less the measured one by whole turns. -/
theorem wrapPhase_phaseOf {plan : TonePlan} {k phase : Nat} {e : Int} (small : phase < 4096) (low : -2048 ≤ e) (high : e ≤ 2047)
    (congruent : (4096 : Int) ∣ ((plan.phaseInit + k * plan.phaseStep : Nat) : Int) - (phase : Int) - e) :
    wrapPhase ((plan.phaseOf k : Int) - (phase : Int)) = e := by
  have turn : plan.phaseOf k = (plan.phaseInit + k * plan.phaseStep) % 4096 := rfl
  generalize plan.phaseInit + k * plan.phaseStep = injected at congruent turn
  obtain ⟨wrapLow, wrapHigh, wrapped⟩ := wrapPhase_congruent (d := (plan.phaseOf k : Int) - (phase : Int)) (by omega) (by omega)
  omega

/-- The errors that the statement's congruences determine are the ones that the engine computes. -/
theorem phaseErrors_eq {plan : TonePlan} {points : List Point} {errors : List Int} (phases : ∀ p ∈ points, p.phase < 4096)
    (length : errors.length = points.length)
    (congruent : ∀ (k : Nat) (p : Point) (e : Int), points[k]? = some p → errors[k]? = some e →
      -2048 ≤ e ∧ e ≤ 2047 ∧ (4096 : Int) ∣ ((plan.phaseInit + k * plan.phaseStep : Nat) : Int) - (p.phase : Int) - e) :
    phaseErrors plan 0 points = errors := by
  refine List.ext_getElem ((phaseErrors_length plan points 0).trans length.symm) fun k inErrors inList => ?_
  have inPoints : k < points.length := length ▸ inList
  obtain ⟨low, high, turns⟩ := congruent k points[k] errors[k] (List.getElem?_eq_getElem inPoints) (List.getElem?_eq_getElem inList)
  have error := phaseErrors_getElem? plan points 0 k
  rw [List.getElem?_eq_getElem inErrors, List.getElem?_eq_getElem inPoints, Option.map_some, Option.some.injEq, Nat.zero_add,
    wrapPhase_phaseOf (phases _ (List.getElem_mem inPoints)) low high turns] at error
  exact error

/-! ## Spread, mean and scale (R102-R104) -/

/-- The spread is the largest error less the smallest. -/
theorem spreadOf_extremes {errors : List Int} (some' : errors ≠ []) :
    ∃ a ∈ errors, ∃ b ∈ errors, spreadOf errors = a - b ∧ ∀ x ∈ errors, b ≤ x ∧ x ≤ a := by
  obtain ⟨e, rest, rfl⟩ := List.exists_cons_of_ne_nil some'
  obtain ⟨largest, above⟩ := List.max?_eq_some_iff.1 (List.max?_cons' (x := e) (xs := rest))
  obtain ⟨smallest, below⟩ := List.min?_eq_some_iff.1 (List.min?_cons' (x := e) (xs := rest))
  exact ⟨_, largest, _, smallest, rfl, fun x hx => ⟨below x hx, above x hx⟩⟩

theorem lt_spreadOf_iff {errors : List Int} (some' : errors ≠ []) (limit : Int) :
    limit < spreadOf errors ↔ ∃ a ∈ errors, ∃ b ∈ errors, limit < a - b := by
  obtain ⟨a, ha, b, hb, spread, extreme⟩ := spreadOf_extremes some'
  rw [spread]
  refine ⟨fun h => ⟨a, ha, b, hb, h⟩, fun ⟨x, hx, y, hy, h⟩ => ?_⟩
  have := extreme x hx
  have := extreme y hy
  omega

theorem sum_bounds {errors : List Int} {low high : Int} (range : ∀ x ∈ errors, low ≤ x ∧ x ≤ high) :
    errors.length * low ≤ errors.sum ∧ errors.sum ≤ errors.length * high := by
  have least := errors.card_nsmul_le_sum low fun x hx => (range x hx).1
  have most := errors.sum_le_card_nsmul high fun x hx => (range x hx).2
  simp only [nsmul_eq_mul] at least most
  exact ⟨least, most⟩

/-- The mean error, truncated toward zero, lies where the errors lie (R103). -/
theorem trimOf_bounds {errors : List Int} {low high : Int} (some' : errors ≠ []) (range : ∀ x ∈ errors, low ≤ x ∧ x ≤ high) :
    low ≤ trimOf errors ∧ trimOf errors ≤ high := by
  obtain ⟨least, most⟩ := sum_bounds range
  have count : (0 : Int) < errors.length := by exact_mod_cast List.length_pos_iff.2 some'
  have atLeast := Int.tdiv_le_tdiv count least
  have atMost := Int.tdiv_le_tdiv count most
  rw [Int.mul_tdiv_cancel_left _ count.ne'] at atLeast atMost
  exact ⟨atLeast, atMost⟩

theorem scaleOf_eq (amplitude mean : Nat) :
    scaleOf amplitude mean = if amplitude * 32768 / mean = 0 then 1 else min 65535 (amplitude * 32768 / mean) := by
  rw [scaleOf]
  generalize amplitude * 32768 / mean = scale
  split <;> omega

/-! ## The computation (R105) -/

section
variable {w : Sweep} {limit : Nat}

theorem Sweep.compute_spread (wide : (limit : Int) < spreadOf (phaseErrors w.plan 0 w.points)) : w.compute limit = .error .spread :=
  if_pos wide

theorem Sweep.compute_invalid (narrow : ¬(limit : Int) < spreadOf (phaseErrors w.plan 0 w.points))
    (dark : meanMagnitude w.points = 0) : w.compute limit = .error .invalid :=
  (if_neg narrow).trans (if_pos dark)

theorem Sweep.compute_values (narrow : ¬(limit : Int) < spreadOf (phaseErrors w.plan 0 w.points))
    (bright : meanMagnitude w.points ≠ 0) :
    w.compute limit =
      .ok
        { offsetI := (w.zero.getD (0, 0)).1
          offsetQ := (w.zero.getD (0, 0)).2
          scale := scaleOf (w.runAmplitude.getD 0) (meanMagnitude w.points)
          trim := trimOf (phaseErrors w.plan 0 w.points) } :=
  (if_neg narrow).trans (if_neg bright)

end

/-- Settles O49: the congruences determine the errors, and the tests are made in the order of R102 to R105. -/
theorem computationGivesValues : Obligations.ComputationGivesValues := by
  intro w limit offsetI offsetQ amplitude errors zero run some' phases length congruent mean
  have computed : phaseErrors w.plan 0 w.points = errors := phaseErrors_eq phases length congruent
  have present : errors ≠ [] := fun h => some' (List.length_eq_zero_iff.1 (by rw [← length, h]; rfl))
  have wide := lt_spreadOf_iff present limit
  have range : ∀ x ∈ errors, -2048 ≤ x ∧ x ≤ 2047 := fun x hx => by
    obtain ⟨k, inList, rfl⟩ := List.getElem_of_mem hx
    obtain ⟨low, high, -⟩ := congruent k w.points[k] errors[k] (List.getElem?_eq_getElem (length ▸ inList))
      (List.getElem?_eq_getElem inList)
    exact ⟨low, high⟩
  refine ⟨fun spread => Sweep.compute_spread (by rwa [computed, wide]), fun within => ?_⟩
  have narrow : ¬(limit : Int) < spreadOf (phaseErrors w.plan 0 w.points) := by
    rw [computed, wide]
    rintro ⟨a, ha, b, hb, above⟩
    exact absurd (within a ha b hb) (by omega)
  refine ⟨Sweep.compute_invalid narrow, fun bright => ⟨?values, ?low, ?high, fun few => ?sum⟩⟩
  case values =>
    rw [Sweep.compute_values narrow bright, zero, run, scaleOf_eq, computed, trimOf, length]
    rfl
  case low => exact length ▸ (trimOf_bounds present range).1
  case high => exact length ▸ (trimOf_bounds present range).2
  case sum =>
    obtain ⟨least, most⟩ := sum_bounds range
    omega

end Sys2Proof.Machine
end

section
/-! A request takes the link's number (O45); a declined sweep waits or fails, and the partner check passes or fails one (O52). -/

namespace Sys2Proof.Machine

/-- Settles O45: the injection of a step is that of the step's constructor. -/
theorem requestTakesNextNumber : Obligations.RequestTakesNextNumber := by
  intro s e w lk
  rw [State.makeRequest, Sweep.injection]
  cases w.step <;> rfl

section
variable {s : State} {l : LinkId} {number : Byte} {e : EngineId} {w : Sweep}

theorem exec_calDeclined_up (running : s.rstN = true) (up : (s.link l).state = .up) :
    exec (.calDeclined l number) s = .next ((s.receivedOn l frameCalDeclined [number]).calDeclined l number) :=
  (whileRunning_of_high running).trans (congrArg _ (State.arrive_up up _))

theorem exec_calDeclined_unawaited (running : s.rstN = true) (up : (s.link l).state = .up) (other : (s.link l).awaited ≠ some number) :
    exec (.calDeclined l number) s = .next (s.receivedOn l frameCalDeclined [number]) := by
  rw [exec_calDeclined_up running up, State.calDeclined, State.awaiting_receivedOn_none other]

theorem exec_calDeclined_awaited (h : s.Awaits l number e w) :
    exec (.calDeclined l number) s =
      .next (((s.receivedOn l frameCalDeclined [number]).acceptAnswer l e w).actOnDecline e w.answered) := by
  rw [exec_calDeclined_up h.1 h.up, State.calDeclined, h.awaiting_receivedOn]
  rfl

theorem State.actOnDecline_fails (limit : s.params.declineLimit ≤ w.declines) :
    s.actOnDecline e w = s.endFailed e w .declined := if_pos limit

theorem State.actOnDecline_waits (below : w.declines < s.params.declineLimit) :
    s.actOnDecline e w =
      s.withSweep e (some { w with declines := w.declines + 1, mode := .wait, timer := .wait s.params.declineWaitMs }) :=
  if_neg (by omega)

/-- The later set of an engine's sweep is the one that holds. -/
theorem State.withSweep_withSweep (s : State) (e : EngineId) (v w : Option Sweep) : (s.withSweep e v).withSweep e w = s.withSweep e w := by
  cases e <;> rfl

theorem Partner.converts_iff {p : Partner} {channel tone : Nat} :
    p.converts channel tone = true ↔ channel < p.channels.toNat ∧ p.toneMask.getLsbD tone = true := by
  simp [Partner.converts, names]

theorem exec_partnerCheck (running : s.rstN = true) (run : s.sweep e = some w) (measures : w.mode = .measure)
    (unasked : w.awaited = none) : exec (.partnerCheck e) s = .next (s.checkPartner e w) := by
  refine (whileRunning_of_high running).trans ?_
  simp only [run, measures, unasked, and_self, if_true]

end

/-- Settles O52: a decline acts on the state that took the answer, by DECLINE_LIMIT; the partner check reads the link's partner facts. -/
theorem declinedOrUnfitSweepWaitsOrFails : Obligations.DeclinedOrUnfitSweepWaitsOrFails := by
  refine ⟨fun s l number => ⟨exec_calDeclined_unawaited, fun e w h => ?declined⟩,
    fun s e w p running run measures unasked partner => ?checked⟩
  case declined =>
    intro got cleared x
    have store : (got.acceptAnswer l e w).store = s.store := State.acceptAnswer_store got l e w
    have params : (got.acceptAnswer l e w).params = s.params := congrArg Store.params store
    rw [exec_calDeclined_awaited h, ← params]
    refine ⟨fun below => ?_, fun limit => congrArg _ (State.actOnDecline_fails limit)⟩
    exact congrArg _ ((State.actOnDecline_waits (w := w.answered) below).trans (State.withSweep_withSweep cleared e _ _))
  case checked =>
    rw [exec_partnerCheck running run measures unasked, State.checkPartner, State.converts, partner]
    simp only [Partner.converts_iff]

end Sys2Proof.Machine
end

section
/-! A message leaves a link's outbound queue (O53), and frames that are protocol faults (O59). -/

namespace Sys2Proof.Machine

/-! ## The head message leaves (R143) -/

section
variable {s : State} {l : LinkId} {m : OutMsg}

theorem exec_outboundFrameSent {rest : List OutMsg} (running : s.rstN = true) (head : (s.link l).out = m :: rest) :
    exec (.outboundFrameSent l) s =
      .next ((s.withLink l { s.link l with out := rest, txLast := m.body.frame }).sentEffects l m) := by
  refine (whileRunning_of_high running).trans ?_
  rw [State.frameSent, head]

/-- A HELLO, and a message that only finishes on the wire, leave without an effect (R143). -/
theorem State.sentEffects_none (idle : m.orphan = true ∨ m.helloOf = true) : s.sentEffects l m = s := by
  rw [State.sentEffects]
  split
  next => rfl
  next waits =>
    have hello := idle.resolve_left waits
    cases h : m.body with
    | hello _ => rfl
    | correction _ => simp [OutMsg.helloOf, h] at hello
    | calRequest _ => simp [OutMsg.helloOf, h] at hello

theorem State.sentEffects_correction {c : Correction} (waits : m.orphan = false) (body : m.body = .correction c) :
    s.sentEffects l m = s.withLink l { s.link l with tags := (s.link l).tags.filter (· != c.tag) } := by
  rw [State.sentEffects, waits, body]
  rfl

theorem State.sentEffects_awaited {q : CalRequest} {e : EngineId} {w : Sweep} (waits : m.orphan = false)
    (body : m.body = .calRequest q) (found : s.awaiting l q.sequence = some (e, w)) :
    s.sentEffects l m = s.withSweep e (some { w with timer := .request s.params.calTimeoutMs }) := by
  rw [State.sentEffects, waits, body]
  simp only [found, Bool.false_eq_true, if_false]

theorem State.sentEffects_unawaited {q : CalRequest} (waits : m.orphan = false) (body : m.body = .calRequest q)
    (none' : s.awaiting l q.sequence = none) : s.sentEffects l m = s := by
  rw [State.sentEffects, waits, body]
  simp only [none', Bool.false_eq_true, if_false]

end

/-- Settles O53: the message leaves, then has the effect of its body on the state without it. -/
theorem sentFrameLeavesQueue : Obligations.SentFrameLeavesQueue := by
  intro s l m rest running head lk
  have sent := exec_outboundFrameSent running head
  refine ⟨fun idle => ?idle, fun c waits body => ?correction,
    fun q waits body ok => ⟨fun e w run on awaited => ?awaited, fun other => ?unawaited⟩⟩
  case idle => rw [sent, State.sentEffects_none idle]
  case correction => rw [sent, State.sentEffects_correction waits body, State.withLink_link, State.withLink_withLink]
  case awaited =>
    have left : (s.withLink l lk).SweepsOk := ok.withLink l rfl rfl
    have found := left.awaiting_some ((s.withLink_sweep l lk e).trans run) on awaited
    rw [sent, State.sentEffects_awaited waits body found, State.withLink_params]
  case unawaited =>
    have none' : (s.withLink l lk).awaiting l q.sequence = none := State.awaiting_none (by rwa [State.withLink_link])
    rw [sent, State.sentEffects_unawaited waits body none']

/-! ## Protocol faults (R142, R148, R151) -/

theorem State.protocolFault_eq (s : State) (l : LinkId) :
    let counted := s.withLink l { s.link l with faults := (s.link l).faults + 1 }
    s.protocolFault l = if 4 ≤ (s.link l).faults + 1 then counted.leaveUp l .protocol else counted := by
  rw [State.protocolFault, State.withLink_link]

/-- A link that is not OFF receives what arrives. -/
theorem State.arrive_on {s : State} {l : LinkId} {kind : Byte} {body : List Byte} (on : (s.link l).state ≠ .off)
    (act : State → State) : s.arrive l kind body act = act (s.receivedOn l kind body) := if_neg on

section
variable {s : State} {l : LinkId} {kind : Byte} {body : List Byte}

/-- A frame that no row of its own names is taken as a protocol fault on an UP link (R142). -/
theorem State.takeUp_unnamed (unnamed : namesFrame kind body.length = false) : s.takeUp l kind body = s.protocolFault l := by
  simp only [namesFrame, Bool.or_eq_false_iff, Bool.and_eq_false_iff, beq_eq_false_iff_ne] at unnamed
  obtain ⟨⟨⟨⟨⟨-, lookup⟩, result⟩, declined⟩, alert⟩, goodbye⟩ := unnamed
  exact (if_neg (not_and_or.2 lookup)).trans <| (if_neg (not_and_or.2 result)).trans <| (if_neg (not_and_or.2 declined)).trans <|
    (if_neg (not_and_or.2 alert)).trans (if_neg (not_and_or.2 goodbye))

theorem State.takeFrame_up (up : (s.link l).state = .up) (unnamed : namesFrame kind body.length = false) :
    s.takeFrame l kind body = s.protocolFault l := by
  rw [State.takeFrame, up]
  exact State.takeUp_unnamed unnamed

/-- On a DOWN link it is discarded: it is no HELLO_ACK (R142). -/
theorem State.takeFrame_down (down : (s.link l).state = .down) (unnamed : namesFrame kind body.length = false) :
    s.takeFrame l kind body = s := by
  have other : kind ≠ 0x11#8 := by
    rintro rfl
    simp [namesFrame] at unnamed
  rw [State.takeFrame, down]
  exact if_neg other

/-- A LOOKUP whose tag is above 3 or outstanding is a protocol fault (R148). -/
theorem State.lookup_faults {tag : Byte} (channel tone gain : Byte)
    (bad : 4 ≤ tag.toNat ∨ ∃ t ∈ (s.link l).tags, t.val = tag.toNat) : s.lookup l tag channel tone gain = s.protocolFault l := by
  rw [State.lookup]
  split
  next => rfl
  next t read =>
    rw [finOf?_some] at read
    obtain beyond | ⟨u, outstanding, same⟩ := bad
    · omega
    · obtain rfl : u = t := Fin.ext (same.trans read.symm)
      exact if_pos (List.contains_iff_mem.2 outstanding)

end

/-- A frame with an effect on UP links only: a DOWN link discards it, an OFF link does not receive it (R142). -/
theorem State.arrive_whenUp_unless_up {s : State} {l : LinkId} {kind : Byte} {body : List Byte} (running : s.rstN = true)
    (act : State → State) :
    let arrived := whileRunning s (s.arrive l kind body fun s => s.whenUp l (act s))
    ((s.link l).state = .down → arrived = .next (s.receivedOn l kind body)) ∧ ((s.link l).state = .off → arrived = .next s) :=
  ⟨fun down => (whileRunning_of_high running).trans (congrArg _ (State.arrive_down down act)),
    fun off => (whileRunning_of_high running).trans (congrArg _ (State.arrive_off off _))⟩

/-- Settles O59: an unnamed frame and a LOOKUP with a bad tag come to the count of R151 on an UP link; the other states of the link
discard the frame or do not receive it. -/
theorem protocolFaultsCounted : Obligations.ProtocolFaultsCounted := by
  refine ⟨State.protocolFault_eq, fun s l kind body running wellFormed => ?unknown, fun s l tag channel tone gain running up bad => ?lookup,
    fun s l tag channel tone gain number condition channels tones first second c kind body running row => ?discarded⟩
  case unknown =>
    have unnamed : namesFrame kind body.length = false := by
      simp only [Instr.wellFormed, Bool.and_eq_true, Bool.not_eq_true'] at wellFormed
      exact wellFormed.2
    have arrives := whileRunning_of_high (s := s) (t := s.arrive l kind body fun s => s.takeFrame l kind body) running
    refine ⟨fun up => arrives.trans (congrArg _ ?_), fun down => arrives.trans (congrArg _ ?_),
      fun off => arrives.trans (congrArg _ (State.arrive_off off _))⟩
    · rw [State.arrive_on (by simp [up])]
      exact State.takeFrame_up ((State.receivedOn_link_state l).trans up) unnamed
    · rw [State.arrive_on (by simp [down])]
      exact State.takeFrame_down ((State.receivedOn_link_state l).trans down) unnamed
  case lookup =>
    refine (whileRunning_of_high running).trans (congrArg _ ((State.arrive_up up _).trans ?_))
    exact State.lookup_faults channel tone gain (by rwa [State.receivedOn_link_self])
  case discarded =>
    simp only [List.mem_cons, Prod.mk.injEq, List.not_mem_nil, or_false] at row
    obtain ⟨rfl, rfl, rfl⟩ | ⟨rfl, rfl, rfl⟩ | ⟨rfl, rfl, rfl⟩ | ⟨rfl, rfl, rfl⟩ := row
    · exact State.arrive_whenUp_unless_up running _
    · exact State.arrive_whenUp_unless_up running _
    · exact State.arrive_whenUp_unless_up running _
    · exact State.arrive_whenUp_unless_up running _

end Sys2Proof.Machine
end

section
/-! The requests that write and read the tone plans and the injection levels, by the fields of their bodies (O36). -/

namespace Sys2Proof.Machine

theorem switchOf?_none {b : Byte} : switchOf? b = none ↔ 1 < b.toNat := by
  rw [switchOf?]
  split
  next off => simp [off]
  next off =>
    split
    next on => simp [on]
    next on => simp only [true_iff]; bv_omega

/-! ## Tone plans (R83, R190) -/

/-- The body of a TONE_PLAN_SET, its settings in range or not (10.2). -/
def planBody (id tone : Byte) (phaseInit phaseStep : Nat) (count capture invalidate : Byte) : List Byte :=
  [id, tone] ++ bytes2 phaseInit ++ bytes2 phaseStep ++ [count, capture, invalidate]

section
variable {id tone count capture invalidate : Byte} {phaseInit phaseStep : Nat}

theorem planAt?_unfit (smallInit : phaseInit ≤ 65535) (smallStep : phaseStep ≤ 65535)
    (unfit : 4095 < phaseInit ∨ phaseStep = 0 ∨ 4095 < phaseStep ∨ count.toNat < 2 ∨ 16 < count.toNat ∨ 1 < capture.toNat) :
    planAt? (planBody id tone phaseInit phaseStep count capture invalidate) = none := by
  have at₂ : wordAt (planBody id tone phaseInit phaseStep count capture invalidate) 2 = phaseInit := bytes2_read smallInit
  have at₄ : wordAt (planBody id tone phaseInit phaseStep count capture invalidate) 4 = phaseStep := bytes2_read smallStep
  have at₆ : byteAt (planBody id tone phaseInit phaseStep count capture invalidate) 6 = count := rfl
  have at₇ : byteAt (planBody id tone phaseInit phaseStep count capture invalidate) 7 = capture := rfl
  rw [planAt?, at₂, at₄, at₆, at₇]
  rcases setting : switchOf? capture with _ | on
  · rfl
  · have fits : ¬1 < capture.toNat := fun wide => by simp [switchOf?_none.2 wide] at setting
    have outside : 4095 < phaseInit ∨ phaseStep = 0 ∨ 4095 < phaseStep ∨ count.toNat < 2 ∨ 16 < count.toNat := by omega
    exact if_pos outside

variable (s : State)

theorem actTonePlanSet_badKey (beyond : 5 < tone.toNat) :
    actTonePlanSet (planBody id tone phaseInit phaseStep count capture invalidate) s = s.refuse .badKey := by
  have none' : finOf? 6 (byteAt (planBody id tone phaseInit phaseStep count capture invalidate) 1).toNat = none :=
    finOf?_none.2 beyond
  rw [actTonePlanSet, none']
  rfl

theorem actTonePlanSet_badValue (named : tone.toNat ≤ 5) (smallInit : phaseInit ≤ 65535) (smallStep : phaseStep ≤ 65535)
    (unfit : 4095 < phaseInit ∨ phaseStep = 0 ∨ 4095 < phaseStep ∨ count.toNat < 2 ∨ 16 < count.toNat ∨ 1 < capture.toNat
      ∨ 1 < invalidate.toNat) :
    actTonePlanSet (planBody id tone phaseInit phaseStep count capture invalidate) s = s.refuse .badValue := by
  have inRange : tone.toNat < 6 := by omega
  have some' : finOf? 6 (byteAt (planBody id tone phaseInit phaseStep count capture invalidate) 1).toNat =
      some ⟨tone.toNat, inRange⟩ := finOf?_of_lt inRange
  have at₈ : byteAt (planBody id tone phaseInit phaseStep count capture invalidate) 8 = invalidate := rfl
  rw [actTonePlanSet, some', at₈]
  rcases plan : planAt? (planBody id tone phaseInit phaseStep count capture invalidate) with _ | p
  · rfl
  · have wide : 1 < invalidate.toNat := by
      by_contra fits
      rw [planAt?_unfit smallInit smallStep (by omega)] at plan
      cases plan
    rw [switchOf?_none.2 wide]
    rfl

theorem actTonePlanSet_writes (tone : Fin 6) {p : TonePlan} (range : p.InRange) :
    actTonePlanSet (tonePlanBody id tone p false) s =
      (s.withPlan tone p).accept [byte tone.val, 0x00#8, 0x00#8, 0x00#8, 0x00#8] := by
  have at₁ : finOf? 6 (byteAt (tonePlanBody id tone p false) 1).toNat = some tone := by
    rw [finOf?_some, show byteAt (tonePlanBody id tone p false) 1 = byte tone.val from rfl, byte_toNat]
    omega
  have at₈ : switchOf? (byteAt (tonePlanBody id tone p false) 8) = some false := switchOf?_code false
  rw [actTonePlanSet, at₁, planAt?_body id tone range false, at₈]
  rfl

theorem actTonePlanRead_badKey (beyond : 5 < tone.toNat) : actTonePlanRead [id, tone] s = s.refuse .badKey := by
  have none' : finOf? 6 (byteAt [id, tone] 1).toNat = none := finOf?_none.2 beyond
  rw [actTonePlanRead, none']
  rfl

theorem actTonePlanRead_reports {i : Fin 6} (named : i.val = tone.toNat) :
    actTonePlanRead [id, tone] s =
      s.accept
        (tone ::
          (bytes2 s.store.plans[i].phaseInit ++ bytes2 s.store.plans[i].phaseStep
            ++ [byte s.store.plans[i].pointCount, switchCode s.store.plans[i].capture])) := by
  have some' : finOf? 6 (byteAt [id, tone] 1).toNat = some i := finOf?_some.2 named
  rw [actTonePlanRead, some']
  rfl

end

/-! ## Injection levels (R85, R192) -/

/-- The state with the amplitude of a level written (R192). -/
def State.withLevel (s : State) (level : Fin 4) (amplitude : Nat) : State :=
  s.withStore { s.store with levels := s.store.levels.set level amplitude }

section
variable {id level : Byte} {amplitude : Nat} (s : State)

theorem actLevelSet_badValue (small : amplitude ≤ 65535) (unfit : 3 < level.toNat ∨ amplitude = 0) :
    actLevelSet ([id, level] ++ bytes2 amplitude) s = s.refuse .badValue := by
  have at₁ : byteAt ([id, level] ++ bytes2 amplitude) 1 = level := rfl
  rw [actLevelSet, wordAt_value small, at₁]
  rcases named : finOf? 4 level.toNat with _ | i
  · rfl
  · have zero : amplitude = 0 := by have := finOf?_some.1 named; omega
    subst zero
    rfl

theorem actLevelSet_writes {i : Fin 4} (small : amplitude ≤ 65535) (named : i.val = level.toNat) (positive : 1 ≤ amplitude) :
    actLevelSet ([id, level] ++ bytes2 amplitude) s =
      (s.withLevel i amplitude).accept (level :: bytes2 amplitude) := by
  have some' : finOf? 4 (byteAt ([id, level] ++ bytes2 amplitude) 1).toNat = some i := finOf?_some.2 named
  have nonzero : amplitude ≠ 0 := by omega
  rw [actLevelSet, wordAt_value small, some']
  exact if_neg nonzero

theorem actLevelRead_badValue (beyond : 3 < level.toNat) : actLevelRead [id, level] s = s.refuse .badValue := by
  have none' : finOf? 4 (byteAt [id, level] 1).toNat = none := finOf?_none.2 beyond
  rw [actLevelRead, none']
  rfl

theorem actLevelRead_reports {i : Fin 4} (named : i.val = level.toNat) :
    actLevelRead [id, level] s = s.accept (level :: bytes2 s.store.levels[i]) := by
  have some' : finOf? 4 (byteAt [id, level] 1).toNat = some i := finOf?_some.2 named
  rw [actLevelRead, some']
  rfl

end

/-- Settles O36: each request acts as the equation of its body says, and is answered without a notice. -/
theorem tonePlansAndLevelsSetAndRead : Obligations.TonePlansAndLevelsSetAndRead := by
  intro s id reply refused
  refine ⟨fun tone p range takes => ?planSet, fun tone count capture invalidate init step smallInit smallStep => ?planRefused,
    fun tone takes => ?planRead, fun level amplitude small takes => ?levelSet, fun level takes => ?levelRead⟩
  case planSet =>
    exact State.whileRunning_takes_quiet takes (t := s.withPlan tone p) fun host => actTonePlanSet_writes (s.withHost host) tone range
  case planRefused =>
    intro body takes
    exact ⟨fun beyond => State.whileRunning_takes_quiet takes (t := s) fun host => actTonePlanSet_badKey (s.withHost host) beyond,
      fun named unfit => State.whileRunning_takes_quiet takes (t := s) fun host =>
        actTonePlanSet_badValue (s.withHost host) named smallInit smallStep unfit⟩
  case planRead =>
    exact ⟨fun i named => State.whileRunning_takes_quiet takes (t := s) fun host => actTonePlanRead_reports (s.withHost host) named,
      fun beyond => State.whileRunning_takes_quiet takes (t := s) fun host => actTonePlanRead_badKey (s.withHost host) beyond⟩
  case levelSet =>
    exact ⟨fun i named positive => State.whileRunning_takes_quiet takes (t := s.withLevel i amplitude) fun host =>
        actLevelSet_writes (s.withHost host) small named positive,
      fun unfit => State.whileRunning_takes_quiet takes (t := s) fun host => actLevelSet_badValue (s.withHost host) small unfit⟩
  case levelRead =>
    exact ⟨fun i named => State.whileRunning_takes_quiet takes (t := s) fun host => actLevelRead_reports (s.withHost host) named,
      fun beyond => State.whileRunning_takes_quiet takes (t := s) fun host => actLevelRead_badValue (s.withHost host) beyond⟩

end Sys2Proof.Machine
end

section
/-! A LOOKUP answered without creating (O56): which record answers under an entry of the Alias Table and under none, and what the answer
carries. -/

namespace Sys2Proof.Machine

/-! ## What an answer carries (R121, R122) -/

theorem Record.serves_iff {r : Record} : r.state.serves = true ↔ r.Serving := by
  simp [RecState.serves_eq, or_assoc]

theorem recordAnswer_eq (tag : Fin 4) (r : Record) (aliased created : Bool) :
    recordAnswer tag r aliased created =
      { tag := tag, status := r.state.lookupStatus, aliased := aliased, created := created, generation := r.generation,
        values := if r.Serving then r.held.map Holding.values else none } := by
  rw [recordAnswer, if_congr Record.serves_iff rfl rfl]

/-! ## Which record answers -/

section
variable {s : State} {key : Key} {tag : Fin 4} {slot : Nat} {r : Record} {a : AliasEntry}

/-- The find of the fallback rule keeps a record that is served with values (R126). -/
theorem servable_of_serving (holds : s.Holds key slot r) (serving : r.Serving) :
    servable (Table.findKey s.table key) = some (slot, r) := by
  rw [State.findKey_of_holds holds]
  exact if_pos (Record.serves_iff.2 serving)

theorem State.answerOwn_holds (holds : s.Holds key slot r) : s.answerOwn tag key = s.serve tag slot r false := by
  rw [State.answerOwn, State.findKey_of_holds holds]

theorem State.answerOwn_misses (lacks : s.Lacks key) (disabled : s.params.autocreateMask.testBit key.link.val = false) :
    s.answerOwn tag key = (s, noRecordAnswer tag .miss false) := by
  rw [State.answerOwn, State.findKey_of_lacks lacks]
  exact if_neg (by simp [namesWide, disabled])

theorem State.answerAliased_always_holds (always : a.mode = .always) (holds : s.Holds (a.target key) slot r) :
    s.answerAliased tag key a = s.serve tag slot r true := by
  rw [State.answerAliased, always, State.findKey_of_holds holds]

theorem State.answerAliased_always_lacks (always : a.mode = .always) (lacks : s.Lacks (a.target key)) :
    s.answerAliased tag key a = (s, noRecordAnswer tag .miss true) := by
  rw [State.answerAliased, always, State.findKey_of_lacks lacks]

theorem State.answerAliased_fallback_own (fallback : a.mode = .fallback) (holds : s.Holds key slot r) (serving : r.Serving) :
    s.answerAliased tag key a = s.serve tag slot r false := by
  rw [State.answerAliased, fallback, servable_of_serving holds serving]

theorem State.answerAliased_fallback_target (fallback : a.mode = .fallback) (idle : s.NotServing key)
    (holds : s.Holds (a.target key) slot r) (serving : r.Serving) : s.answerAliased tag key a = s.serve tag slot r true := by
  rw [State.answerAliased, fallback, servable_none idle, servable_of_serving holds serving]

/-- Where neither record is served with values, the entry is as none (R126). -/
theorem State.answerAliased_fallback_neither (fallback : a.mode = .fallback) (idle : s.NotServing key)
    (idleTarget : s.NotServing (a.target key)) : s.answerAliased tag key a = s.answerOwn tag key := by
  rw [State.answerAliased, fallback, servable_none idle, servable_none idleTarget]

/-! ## Which key is looked up -/

theorem State.converts_of_excluded {p : Partner} (partner : (s.link key.link).partner = some p)
    (excluded : p.channels.toNat ≤ key.channel.val ∨ p.toneMask.getLsbD key.tone.val = false) : s.converts key = false := by
  rw [State.converts, partner]
  rcases excluded with channel | tone
  · simp [Partner.converts, channel]
  · simp [Partner.converts, names, tone]

theorem State.answerKey_excluded (excluded : s.converts key = false) :
    s.answerKey tag key = (s, noRecordAnswer tag .badKey false) :=
  if_neg (by simp [excluded])

theorem State.answerKey_unaliased (converts : s.converts key = true) (free : s.Unaliased key) :
    s.answerKey tag key = s.answerOwn tag key := by
  rw [State.answerKey, if_pos converts, State.aliasFor_none free]

theorem State.answerKey_aliased (converts : s.converts key = true) (matched : s.FirstMatch key a) :
    s.answerKey tag key = s.answerAliased tag key a := by
  rw [State.answerKey, if_pos converts, State.aliasFor_some matched]

variable {l : LinkId} {channel tone gain : Byte}

theorem State.answerLookup_outside (outside : 8 ≤ channel.toNat ∨ 6 ≤ tone.toNat ∨ 12 ≤ gain.toNat) :
    s.answerLookup l tag channel tone gain = (s, noRecordAnswer tag .badKey false) := by
  rw [State.answerLookup, keyOf?_none.2 (by omega)]

theorem State.answerLookup_inside (link : key.link = l) (atChannel : key.channel.val = channel.toNat)
    (atTone : key.tone.val = tone.toNat) (atGain : key.gain.val = gain.toNat) :
    s.answerLookup l tag channel tone gain = s.answerKey tag key := by
  rw [State.answerLookup, keyOf?_some.2 ⟨congrArg _ link, atChannel, atTone, atGain⟩]

/-- To serve a record reads and writes nothing of a link (R130). -/
theorem State.serve_withTag (s : State) (l : LinkId) (tag : Fin 4) (slot : Nat) (r : Record) (aliased : Bool) :
    (s.withTag l tag).serve tag slot r aliased =
      ((s.stamp slot).withLink l ((s.link l).tagged tag), recordAnswer tag r aliased false) := rfl

end

/-- A LOOKUP that is handed over ends with its CORRECTION in the link's outbound queue (R118). -/
theorem exec_lookup_answered {s t : State} {l : LinkId} {tag : Fin 4} {channel tone gain : Byte} {c : Correction}
    (running : s.rstN = true) (up : (s.link l).state = .up) (free : tag ∉ (s.link l).tags)
    (answer : ((s.receivedOn l 0x12#8 [byte tag.val, channel, tone, gain]).withTag l tag).answerLookup l tag channel tone gain =
      (t.withLink l (((s.receivedOn l 0x12#8 [byte tag.val, channel, tone, gain]).link l).tagged tag), c)) :
    exec (.lookup l (byte tag.val) channel tone gain) s =
      .next
        (t.withLink l
          { (s.receivedOn l 0x12#8 [byte tag.val, channel, tone, gain]).link l with
            tags := (s.link l).tags ++ [tag]
            out := (s.link l).out ++ [{ body := .correction c, orphan := false }] }) := by
  rw [exec_lookup running up free, State.handOver_answered answer, State.receivedOn_link_self]

/-- Settles O56: every answer is that of the state in which the tag is outstanding, so it is no record's or a record's, and each branch
of the rules says whose. -/
theorem lookupAnsweredFromTable : Obligations.LookupAnsweredFromTable := by
  intro s l tag channel tone gain p running ok up free partner u statusOf sent result none' served
  have handed (t : State) (c : Correction)
      (answer : (u.withTag l tag).answerLookup l tag channel tone gain = (t.withLink l ((u.link l).tagged tag), c)) :
      result (t.withLink l (sent c)) := exec_lookup_answered running up free answer
  have unserved (status : LookupStatus) (aliased : Bool)
      (answer : (u.withTag l tag).answerLookup l tag channel tone gain = (u.withTag l tag, noRecordAnswer tag status aliased)) :
      result (none' status aliased) := handed u _ answer
  have serves (slot : Nat) (r : Record) (aliased : Bool) (hr : (slot, r) ∈ s.table)
      (answer : (u.withTag l tag).answerLookup l tag channel tone gain = (u.withTag l tag).serve tag slot r aliased) :
      served slot r aliased := by
    refine ⟨(u.stamp slot).withLink l (sent (recordAnswer tag r aliased false)),
      handed (u.stamp slot) _ (answer.trans (State.serve_withTag u l tag slot r aliased)),
      ?stamped, ?link, fun m other => ?others, ?frame⟩
    case stamped => exact Table.differsAt_modify (ok.get hr) fun r => { r with lastUse := s.epochCount }
    case link =>
      rw [State.withLink_link, recordAnswer_eq]
      rfl
    case others =>
      rw [State.withLink_link_ne _ other]
      exact State.withLink_link_ne _ other _
    case frame => rfl
  refine ⟨fun outside => unserved _ _ (State.answerLookup_outside outside), fun key onLink atChannel atTone atGain => ?_⟩
  have looked : (u.withTag l tag).answerLookup l tag channel tone gain = (u.withTag l tag).answerKey tag key :=
    State.answerLookup_inside onLink atChannel atTone atGain
  have partner' : ((u.withTag l tag).link key.link).partner = some p := by
    simp [onLink, State.withTag, Link.tagged, u, State.receivedOn, partner]
  rw [← atChannel, ← atTone]
  refine ⟨fun excluded => ?excluded, fun inChannels inTones => ?_⟩
  case excluded => exact unserved _ _ (looked.trans (State.answerKey_excluded (State.converts_of_excluded partner' excluded)))
  have converts : (u.withTag l tag).converts key = true := State.converts_of_partner partner' inChannels inTones
  have own (answer : (u.withTag l tag).answerLookup l tag channel tone gain = (u.withTag l tag).answerOwn tag key) :
      (∀ slot r, s.Holds key slot r → served slot r false)
        ∧ (s.Lacks key → s.params.autocreateMask.testBit l.val = false → result (none' .miss false)) :=
    ⟨fun slot r holds => serves slot r false holds.2.1 (answer.trans (State.answerOwn_holds holds)),
      fun lacks disabled => unserved _ _ (answer.trans (State.answerOwn_misses lacks (onLink ▸ disabled)))⟩
  refine ⟨fun unaliased => own (looked.trans (State.answerKey_unaliased converts unaliased)), fun a matched => ?_⟩
  have aliased := looked.trans (State.answerKey_aliased converts matched)
  refine ⟨fun always => ⟨fun slot r holds => ?target, fun lacks => ?missing⟩,
    fun fallback => ⟨fun slot r holds serving => ?ownServing, fun slot r idle holds serving => ?targetServing,
      fun idleTarget => ?neither⟩⟩
  case target => exact serves slot r true holds.2.1 (aliased.trans (State.answerAliased_always_holds always holds))
  case missing => exact unserved _ _ (aliased.trans (State.answerAliased_always_lacks always lacks))
  case ownServing =>
    exact serves slot r false holds.2.1 (aliased.trans (State.answerAliased_fallback_own fallback holds serving))
  case targetServing =>
    exact serves slot r true holds.2.1 (aliased.trans (State.answerAliased_fallback_target fallback idle holds serving))
  case neither =>
    have asOwn (idle : s.NotServing key) := own (aliased.trans (State.answerAliased_fallback_neither fallback idle idleTarget))
    exact ⟨fun slot r holds notServing => (asOwn (.inr ⟨slot, r, holds, notServing⟩)).1 slot r holds,
      fun lacks => (asOwn (.inl lacks)).2 lacks⟩

end Sys2Proof.Machine
end

section
/-! The requests of the Alias Table by the fields of their bodies: ALIAS_SET (O34), ALIAS_CLEAR and ALIAS_READ (O35). -/

namespace Sys2Proof.Machine

theorem State.aliases_getElem_set (s : State) (i j : Fin 8) (e : Option AliasEntry) :
    (s.aliases.set i e)[j] = if j = i then e else s.aliases[j] := by
  simp [Vector.getElem_set, Fin.ext_iff, eq_comm]

/-! ## The fields of an ALIAS_SET (R132, R200) -/

theorem aliasModeOf?_none {b : Byte} : aliasModeOf? b = none ↔ 1 < b.toNat := by
  rw [aliasModeOf?]
  split
  next always => simp [always]
  next always =>
    split
    next fallback => simp [fallback]
    next fallback => simp only [true_iff]; bv_omega

theorem aliasToneOf?_none {b : Byte} : aliasToneOf? b = none ↔ 5 < b.toNat ∧ b ≠ 0xFF#8 := by
  rw [aliasToneOf?]
  split
  next any => simp [any]
  next named => simp [finOf?_none, named, Nat.succ_le_iff]

section
variable {body : List Byte}

theorem aliasEnds?_some {source target : LinkId × Fin 8} :
    aliasEnds? body = some (source, target) ↔
      source.1.val = (byteAt body 2).toNat ∧ source.2.val = (byteAt body 3).toNat
        ∧ target.1.val = (byteAt body 5).toNat ∧ target.2.val = (byteAt body 6).toNat := by
  simp only [← finOf?_some]
  rw [aliasEnds?]
  split
  next sourceLink sourceChannel targetLink targetChannel =>
    simp only [sourceLink, sourceChannel, targetLink, targetChannel, Option.some.injEq, Prod.ext_iff, and_assoc]
  next unnamed =>
    simp only [reduceCtorEq, false_iff]
    rintro ⟨sourceLink, sourceChannel, targetLink, targetChannel⟩
    exact unnamed _ _ _ _ sourceLink sourceChannel targetLink targetChannel

/-- A link or channel out of range names no ends. -/
theorem aliasEnds?_none
    (outside : ¬((byteAt body 2).toNat ≤ 3 ∧ (byteAt body 3).toNat ≤ 7
      ∧ (byteAt body 5).toNat ≤ 3 ∧ (byteAt body 6).toNat ≤ 7)) :
    aliasEnds? body = none := by
  rcases ends : aliasEnds? body with _ | ⟨source, target⟩
  · rfl
  · have := aliasEnds?_some.1 ends
    omega

/-! ## ALIAS_SET (R132, R188) -/

variable (s : State)

theorem actAliasSet_badKey (length : body.length = 8) (ends : aliasEnds? body = none) : actAliasSet body s = s.refuse .badKey := by
  rw [actAliasSet, if_neg (not_not_intro length), ends]

theorem actAliasSet_badValue (length : body.length = 8) {source target : LinkId × Fin 8}
    (ends : aliasEnds? body = some (source, target))
    (unfit : 7 < (byteAt body 1).toNat ∨ (5 < (byteAt body 4).toNat ∧ byteAt body 4 ≠ 0xFF#8) ∨ 1 < (byteAt body 7).toNat
      ∨ source = target) :
    actAliasSet body s = s.refuse .badValue := by
  rw [actAliasSet, if_neg (not_not_intro length), ends]
  dsimp only
  split
  next index tone mode atIndex atTone atMode =>
    refine if_pos ?_
    rw [← aliasToneOf?_none, ← aliasModeOf?_none] at unfit
    have := finOf?_some.1 atIndex
    rcases unfit with beyond | noTone | noMode | same
    · omega
    · simp [noTone] at atTone
    · simp [noMode] at atMode
    · exact same
  next => rfl

theorem actAliasSet_writes (id : Byte) (index : Fin 8) {e : AliasEntry}
    (distinct : (e.sourceLink, e.sourceChannel) ≠ (e.targetLink, e.targetChannel)) :
    actAliasSet (aliasSetBody id index e) s = (s.withAliases (s.aliases.set index (some e))).accept [byte index.val] := by
  have ends : aliasEnds? (aliasSetBody id index e) =
      some ((e.sourceLink, e.sourceChannel), (e.targetLink, e.targetChannel)) := by
    rw [aliasEnds?_some]
    simp only [aliasSetBody, byteAt, List.getD_cons_succ, List.getD_cons_zero, byte_toNat]
    omega
  have atIndex : finOf? 8 (byteAt (aliasSetBody id index e) 1).toNat = some index := by
    rw [finOf?_some, show byteAt (aliasSetBody id index e) 1 = byte index.val from rfl, byte_toNat]
    omega
  have atTone : aliasToneOf? (byteAt (aliasSetBody id index e) 4) = some e.tone := aliasToneOf?_code e.tone
  have atMode : aliasModeOf? (byteAt (aliasSetBody id index e) 7) = some e.mode := aliasModeOf?_code e.mode
  rw [actAliasSet, ends, atIndex, atTone, atMode]
  exact if_neg distinct

end

/-- Settles O34: the entry is written at its index, and each refusal follows from the field that is out of range. -/
theorem aliasSetWritesOneEntry : Obligations.AliasSetWritesOneEntry := by
  refine ⟨fun s id index e takes distinct => ?writes, ?refused⟩
  case writes =>
    exact ⟨_, State.whileRunning_takes_quiet takes (t := s.withAliases (s.aliases.set index (some e))) fun host =>
      actAliasSet_writes (s.withHost host) id index distinct, fun j => s.aliases_getElem_set index j (some e), rfl, rfl⟩
  case refused =>
    intro s id index sourceLink sourceChannel tone targetLink targetChannel mode body refused ends takes
    refine ⟨fun outside => ?badKey, fun inside unfit => ?badValue⟩
    case badKey =>
      exact State.whileRunning_takes_quiet takes (t := s) fun host =>
        actAliasSet_badKey (s.withHost host) rfl (aliasEnds?_none outside)
    case badValue =>
      obtain ⟨sl, sc, tl, tc⟩ := inside
      have named : aliasEnds? body =
          some ((⟨sourceLink.toNat, by omega⟩, ⟨sourceChannel.toNat, by omega⟩),
            (⟨targetLink.toNat, by omega⟩, ⟨targetChannel.toNat, by omega⟩)) := aliasEnds?_some.2 ⟨rfl, rfl, rfl, rfl⟩
      refine State.whileRunning_takes_quiet takes (t := s) fun host =>
        actAliasSet_badValue (s.withHost host) rfl named (unfit.imp_right <| Or.imp_right <| Or.imp_right ?_)
      rintro ⟨rfl, rfl⟩
      rfl

/-! ## Requests that carry an index (R133) -/

section
variable (s : State) {id index : Byte} (act : Fin 8 → Answer)

theorem State.indexRequest_named {i : Fin 8} (named : i.val = index.toNat) : s.indexRequest [id, index] act = act i := by
  have some' : finOf? 8 (byteAt [id, index] 1).toNat = some i := finOf?_some.2 named
  rw [State.indexRequest, some']
  rfl

theorem State.indexRequest_badValue (beyond : 7 < index.toNat) : s.indexRequest [id, index] act = s.refuse .badValue := by
  have none' : finOf? 8 (byteAt [id, index] 1).toNat = none := finOf?_none.2 beyond
  rw [State.indexRequest, none']
  rfl

theorem actAliasClear_empties {i : Fin 8} (named : i.val = index.toNat) :
    actAliasClear [id, index] s = (s.withAliases (s.aliases.set i none)).accept [index] :=
  s.indexRequest_named _ named

theorem actAliasRead_reports {i : Fin 8} (named : i.val = index.toNat) :
    actAliasRead [id, index] s = s.accept (index :: aliasEntryBytes s.aliases[i]) :=
  s.indexRequest_named _ named

end

/-- Settles O35: each request acts on the entry that its index names. -/
theorem aliasClearAndReadByIndex : Obligations.AliasClearAndReadByIndex := by
  refine fun s id index => ⟨fun takes => ⟨fun i named => ?clears, fun beyond => ?clearRefused⟩,
    fun takes => ⟨fun i named => ?reads, fun beyond => ?readRefused⟩⟩
  case clears =>
    exact ⟨_, State.whileRunning_takes_quiet takes (t := s.withAliases (s.aliases.set i none)) fun host =>
      actAliasClear_empties (s.withHost host) named, fun j => s.aliases_getElem_set i j none, rfl, rfl⟩
  case clearRefused =>
    exact State.whileRunning_takes_quiet takes (t := s) fun host => State.indexRequest_badValue (s.withHost host) _ beyond
  case reads =>
    have reported := State.whileRunning_takes_quiet takes (t := s) (payload := index :: aliasEntryBytes s.aliases[i]) fun host =>
      actAliasRead_reports (s.withHost host) named
    refine reported.trans ?_
    cases s.aliases[i] <;> rfl
  case readRefused =>
    exact State.whileRunning_takes_quiet takes (t := s) fun host => State.indexRequest_badValue (s.withHost host) _ beyond

end Sys2Proof.Machine
end

section
/-! What a link tells of its lookups (R149), and which operations leave it as it was: requests, HELLOs and their removal pass the
CORRECTIONs by. -/

namespace Sys2Proof.Machine

/-! ## The lookups of a link -/

/-- The tag that a message answers: that of a CORRECTION which still waits. -/
def OutMsg.openTag (m : OutMsg) : Option (Fin 4) :=
  match m.orphan, m.body with
  | false, .correction c => some c.tag
  | _, _ => none

theorem Link.openTags_eq (lk : Link) : lk.openTags = lk.out.filterMap OutMsg.openTag := rfl

theorem OutMsg.openTag_orphan {m : OutMsg} (h : m.orphan = true) : m.openTag = none := by simp [OutMsg.openTag, h]

theorem OutMsg.openTag_other {m : OutMsg} (h : ∀ c, m.body ≠ .correction c) : m.openTag = none := by
  rw [OutMsg.openTag]
  split
  next c _ body => exact absurd body (h c)
  next => rfl

theorem OutMsg.openTag_eq_some {m : OutMsg} {t : Fin 4} :
    m.openTag = some t ↔ m.orphan = false ∧ ∃ c, m.body = .correction c ∧ c.tag = t := by
  rw [OutMsg.openTag]
  split
  next c waits body => simp [waits, body]
  next other => simpa using fun waits c body _ => other c waits body

/-- What R149 speaks of: a link's state, its outstanding tags, and the tags of the CORRECTIONs that still answer a lookup. -/
def Link.lookups (lk : Link) : LinkState × List (Fin 4) × List (Fin 4) := (lk.state, lk.tags, lk.openTags)

theorem Link.lookups_eq_iff {lk lk' : Link} :
    lk.lookups = lk'.lookups ↔ lk.state = lk'.state ∧ lk.tags = lk'.tags ∧ lk.openTags = lk'.openTags := by
  simp [Link.lookups]

/-- A message joins the outbound queue with the tag that it answers. -/
theorem Link.openTags_of_join {lk before : Link} {m : OutMsg} (out : lk.out = before.out ++ [m]) :
    lk.openTags = before.openTags ++ m.openTag.toList := by
  cases h : m.openTag <;> simp [Link.openTags_eq, out, h]

/-- One that answers no tag brings none. -/
theorem Link.openTags_of_quiet_join {lk before : Link} {m : OutMsg} (out : lk.out = before.out ++ [m]) (quiet : m.openTag = none) :
    lk.openTags = before.openTags := by
  rw [Link.openTags_of_join out, quiet]
  exact List.append_nil _

/-- Where the link set has the lookups it had, so has every link. -/
theorem State.withLink_lookups {s : State} {l : LinkId} {lk : Link} (same : lk.lookups = (s.link l).lookups) (m : LinkId) :
    ((s.withLink l lk).link m).lookups = (s.link m).lookups := by
  rw [State.withLink_link_eq]
  split
  next h => rw [same, h]
  next => rfl

/-! ## Removals -/

/-- A removal that spares the waiting CORRECTIONs leaves the lookups of every link. -/
theorem State.removeOut_lookups (s : State) (l : LinkId) {p : OutMsg → Bool} (spares : ∀ m, p m = true → m.openTag = none)
    (m : LinkId) : ((s.removeOut l p).link m).lookups = (s.link m).lookups := by
  by_cases h : m = l
  case neg => rw [State.removeOut_link_other s l p h]
  subst h
  have kept : ((s.removeOut m p).link m).out.filter (·.openTag.isSome) = (s.link m).out.filter (·.openTag.isSome) :=
    s.removeOut_out_filter m p fun x hx => by simp [spares x hx, OutMsg.openTag_orphan]
  have answers (out : List OutMsg) : (out.filter (·.openTag.isSome)).filterMap OutMsg.openTag = out.filterMap OutMsg.openTag := by
    induction out with
    | nil => rfl
    | cons x out ih => cases hx : x.openTag <;> simp [hx, ih]
  have tags : ((s.removeOut m p).link m).tags = (s.link m).tags := by rw [← s.removeOut_link_rest m p]
  refine Link.lookups_eq_iff.2 ⟨State.removeOut_link_state s m m p, tags, ?_⟩
  rw [Link.openTags_eq, ← answers, kept, answers, Link.openTags_eq]

/-- A removal that reaches every waiting CORRECTION leaves none that answers a tag. -/
theorem State.removeOut_openTags_nil (s : State) (l : LinkId) {p : OutMsg → Bool}
    (reaches : ∀ m : OutMsg, m.orphan = false → p m = false → ∀ c, m.body ≠ .correction c) :
    ((s.removeOut l p).link l).openTags = [] := by
  rw [Link.openTags_eq, List.filterMap_eq_nil_iff]
  intro m stood
  cases waits : m.orphan with
  | true => exact OutMsg.openTag_orphan waits
  | false => exact OutMsg.openTag_other (reaches m waits (s.removeOut_out_unmet l p m stood waits))

section
variable (s : State) (l m : LinkId)

@[simp] theorem State.removeOut_isCalRequest_lookups :
    ((s.removeOut l OutMsg.isCalRequest).link m).lookups = (s.link m).lookups :=
  s.removeOut_lookups l (fun x hx => OutMsg.openTag_other fun c body => by simp [OutMsg.isCalRequest, body] at hx) m

@[simp] theorem State.removeOut_isHello_lookups : ((s.removeOut l OutMsg.isHello).link m).lookups = (s.link m).lookups :=
  s.removeOut_lookups l (fun x hx => OutMsg.openTag_other fun c body => by simp [OutMsg.isHello, body] at hx) m

@[simp] theorem State.removeOut_isCorrection_openTags : ((s.removeOut l OutMsg.isCorrection).link l).openTags = [] :=
  s.removeOut_openTags_nil l fun x waits hx c body => by simp [OutMsg.isCorrection, waits, body] at hx

@[simp] theorem State.removeOut_isWaiting_openTags : ((s.removeOut l OutMsg.isWaiting).link l).openTags = [] :=
  s.removeOut_openTags_nil l fun x waits hx c _ => by simp [OutMsg.isWaiting, waits] at hx

end

/-! ## Engines -/

section
variable (s : State) (e : EngineId) (w : Sweep) (m : LinkId)

@[simp] theorem State.makeRequest_lookups : ((s.makeRequest e w).link m).lookups = (s.link m).lookups := by
  rw [State.makeRequest, State.withSweep_link]
  refine State.withLink_lookups (Link.lookups_eq_iff.2 ?_) m
  exact ⟨rfl, rfl, Link.openTags_of_quiet_join rfl rfl⟩

@[simp] theorem State.clearEngine_lookups : ((s.clearEngine e w).link m).lookups = (s.link m).lookups := by
  rw [State.clearEngine_link]
  split <;> rfl

@[simp] theorem State.stopEngine_lookups : ((s.stopEngine e w).link m).lookups = (s.link m).lookups := by
  simp [State.stopEngine]

@[simp] theorem State.endFailed_lookups (reason : FailReason) : ((s.endFailed e w reason).link m).lookups = (s.link m).lookups := by
  simp only [State.endFailed]
  split <;> simp

@[simp] theorem State.endCommitted_lookups (v : Values) : ((s.endCommitted e w v).link m).lookups = (s.link m).lookups := by
  simp only [State.endCommitted]
  split <;> simp

@[simp] theorem State.computeAndEnd_lookups : ((s.computeAndEnd e w).link m).lookups = (s.link m).lookups := by
  simp only [State.computeAndEnd]
  split <;> simp

@[simp] theorem State.checkPartner_lookups : ((s.checkPartner e w).link m).lookups = (s.link m).lookups := by
  simp only [State.checkPartner]
  split <;> simp

@[simp] theorem State.actOnResult_lookups (c : Condition) (first second : Word) :
    ((s.actOnResult e w c first second).link m).lookups = (s.link m).lookups := by
  simp only [State.actOnResult, State.zeroResult, State.pointResult, State.goodPoint, State.saturatedPoint, State.startRun]
  (repeat' split) <;> simp

@[simp] theorem State.acceptAnswer_lookups (l : LinkId) : ((s.acceptAnswer l e w).link m).lookups = (s.link m).lookups := by
  rw [State.acceptAnswer, State.withSweep_link]
  exact State.withLink_lookups (by rfl) m

@[simp] theorem State.calResult_lookups (l : LinkId) (number condition : Byte) (first second : Word) :
    ((s.calResult l number condition first second).link m).lookups = (s.link m).lookups := by
  simp only [State.calResult]
  split <;> simp

@[simp] theorem State.calDeclined_lookups (l : LinkId) (number : Byte) :
    ((s.calDeclined l number).link m).lookups = (s.link m).lookups := by
  simp only [State.calDeclined, State.actOnDecline]
  (repeat' split) <;> simp

@[simp] theorem State.haltEngine_lookups : ((s.haltEngine e).link m).lookups = (s.link m).lookups := by
  simp only [State.haltEngine]
  split <;> simp

@[simp] theorem State.withdraw_lookups (slot : Nat) (r : Record) (o : SweepOutcome) :
    ((s.withdraw slot r o).link m).lookups = (s.link m).lookups := by
  simp only [State.withdraw]
  (repeat' split) <;> simp [State.endStopped]

@[simp] theorem State.sweepEnded_lookups (l : LinkId) : ((s.sweepEnded l).link m).lookups = (s.link m).lookups := by
  simp only [State.sweepEnded]
  (repeat' split) <;> simp [State.endLinkFailed]

@[simp] theorem State.abortForDisable_lookups (l : LinkId) : ((s.abortForDisable l).link m).lookups = (s.link m).lookups := by
  simp only [State.abortForDisable]
  (repeat' split) <;> simp

@[simp] theorem State.clearRequests_lookups (l : LinkId) : ((s.clearRequests l).link m).lookups = (s.link m).lookups := by
  rw [State.clearRequests, ← s.removeOut_isCalRequest_lookups l m]
  exact State.withLink_lookups (by rfl) m

@[simp] theorem State.softResetTable_lookups : (s.softResetTable.link m).lookups = (s.link m).lookups := by
  simp [State.softResetTable]

end

/-! ## Requests that act on records, aliases and the store -/

section
variable (s : State) (m : LinkId)

theorem State.onRecord_lookups {key : Key} {act : Nat → Record → Answer}
    (same : ∀ slot r, ((act slot r).state.link m).lookups = (s.link m).lookups) :
    ((s.onRecord key act).state.link m).lookups = (s.link m).lookups := by
  simp only [State.onRecord]
  split
  next => rfl
  next slot r _ => exact same slot r

theorem State.keyRequest_lookups {body : List Byte} {act : Nat → Record → Answer}
    (same : ∀ slot r, ((act slot r).state.link m).lookups = (s.link m).lookups) :
    ((s.keyRequest body act).state.link m).lookups = (s.link m).lookups := by
  simp only [State.keyRequest]
  (repeat' split) <;> simp [s.onRecord_lookups m same]

/-- A marking pass by a marking that changes at most table, queue and what is due. -/
theorem State.markPass_link {mark : State → Nat → Record → State × Option RefreshAction}
    (shape : ∀ s slot r, ∃ q t c, (mark s slot r).1 = ((s.withQueue q).withTable t).withConsider c) (slots : List Nat) :
    (s.markPass mark slots).1.link m = s.link m := by
  obtain ⟨q, t, c, passed⟩ := State.markPass_frame mark shape slots s
  rw [passed]
  simp

variable (body : List Byte)

@[simp] theorem actCreate_lookups : ((actCreate body s).state.link m).lookups = (s.link m).lookups := by
  simp only [actCreate, State.createClaim]
  (repeat' split) <;> simp

@[simp] theorem actLoad_lookups : ((actLoad body s).state.link m).lookups = (s.link m).lookups := by
  simp only [actLoad]
  (repeat' split) <;> simp [State.onRecord_lookups]

@[simp] theorem actRetire_lookups : ((actRetire body s).state.link m).lookups = (s.link m).lookups :=
  s.keyRequest_lookups m (by simp)

@[simp] theorem State.setPolicyClaim_lookups (slot : Nat) (r : Record) (policy : Policy) (pin : Bool) :
    ((s.setPolicyClaim slot r policy pin).link m).lookups = (s.link m).lookups := by
  simp only [State.setPolicyClaim]
  split <;> simp [State.makeFixed]

@[simp] theorem actSetPolicy_lookups : ((actSetPolicy body s).state.link m).lookups = (s.link m).lookups := by
  simp only [actSetPolicy]
  (repeat' split) <;> simp [State.onRecord_lookups]

@[simp] theorem actRefresh_lookups : ((actRefresh body s).state.link m).lookups = (s.link m).lookups := by
  refine s.keyRequest_lookups m fun slot r => ?_
  have claimed : ((s.refreshClaim slot r).1.link m).lookups = (s.link m).lookups := by simp
  split
  next => rfl
  next =>
    split
    next => rfl
    next =>
      split
      next s' a found => simpa only [found] using claimed
      next => rfl

@[simp] theorem actRefreshScope_lookups : ((actRefreshScope body s).state.link m).lookups = (s.link m).lookups := by
  simp only [actRefreshScope]
  (repeat' split) <;> simp [State.markPass_link _ _ (State.mark_shape .host)]

@[simp] theorem actTonePlanSet_lookups : ((actTonePlanSet body s).state.link m).lookups = (s.link m).lookups := by
  simp only [actTonePlanSet]
  (repeat' split) <;> simp [State.markPass_link _ _ State.markAlert_shape]

@[simp] theorem actLevelSet_lookups : ((actLevelSet body s).state.link m).lookups = (s.link m).lookups := by
  simp only [actLevelSet]
  (repeat' split) <;> simp

@[simp] theorem actConfigSet_lookups : ((actConfigSet body s).state.link m).lookups = (s.link m).lookups := by
  simp only [actConfigSet]
  (repeat' split) <;> simp

@[simp] theorem actAliasSet_lookups : ((actAliasSet body s).state.link m).lookups = (s.link m).lookups := by
  simp only [actAliasSet]
  (repeat' split) <;> simp

@[simp] theorem actAliasClear_lookups : ((actAliasClear body s).state.link m).lookups = (s.link m).lookups := by
  simp only [actAliasClear, State.indexRequest]
  (repeat' split) <;> simp

/-- A request row of the opcode table is the request of its kind (log 11). -/
theorem exec_request {c : Instr} {kind : Byte} {body : List Byte} (row : requestOf c = some (kind, body)) (s : State) :
    exec c s = whileRunning s (s.takeRequest kind body (actByKind kind)) := by
  cases c <;> cases row <;> rfl

end

/-! ## Links and frames -/

section
variable (s : State) (l m : LinkId)

@[simp] theorem State.withRx_lookups (chars : List Byte) : ((s.withRx l chars).link m).lookups = (s.link m).lookups :=
  State.withLink_lookups (by rfl) m

@[simp] theorem State.refusePartner_lookups (body : List Byte) :
    ((s.refusePartner l body).link m).lookups = (s.link m).lookups := by
  simp only [State.refusePartner]
  split
  next => rfl
  next =>
    simp only [State.emit_frame]
    exact State.withLink_lookups (by rfl) m

end

end Sys2Proof.Machine
end

section
/-! A tag is outstanding exactly while its CORRECTION waits (O11): a LOOKUP brings both, the sent frame takes both, and a link that
leaves UP loses every one. -/

namespace Sys2Proof.Machine

/-- What R149 asks of one link. -/
def Link.TagsOk (lk : Link) : Prop := lk.tags = lk.openTags ∧ lk.tags.Nodup ∧ (lk.state ≠ .up → lk.tags = [])

theorem State.tagsOk_iff {s : State} : s.TagsOk ↔ ∀ l, (s.link l).TagsOk := Iff.rfl

theorem Link.TagsOk.of_lookups {lk lk' : Link} (h : lk.TagsOk) (same : lk'.lookups = lk.lookups) : lk'.TagsOk := by
  obtain ⟨state, tags, opens⟩ := Link.lookups_eq_iff.1 same
  rwa [Link.TagsOk, state, tags, opens]

/-- A link with no tag and no CORRECTION that waits, whatever its state. -/
theorem Link.TagsOk.of_nil {lk : Link} (tags : lk.tags = []) (opens : lk.openTags = []) : lk.TagsOk :=
  ⟨tags.trans opens.symm, tags ▸ List.nodup_nil, fun _ => tags⟩

theorem Link.TagsOk.nil_of_not_up {lk : Link} (h : lk.TagsOk) (down : lk.state ≠ .up) : lk.tags = [] ∧ lk.openTags = [] := by
  obtain ⟨same, -, closed⟩ := h
  exact ⟨closed down, same ▸ closed down⟩

/-! ## The answer carries the tag of its LOOKUP (R118) -/

section
variable (s : State) (tag : Fin 4)

@[simp] theorem recordAnswer_tag (r : Record) (aliased created : Bool) : (recordAnswer tag r aliased created).tag = tag := rfl

@[simp] theorem noRecordAnswer_tag (status : LookupStatus) (aliased : Bool) : (noRecordAnswer tag status aliased).tag = tag := rfl

@[simp] theorem State.serve_tag (slot : Nat) (r : Record) (aliased : Bool) : (s.serve tag slot r aliased).2.tag = tag := rfl

@[simp] theorem State.answerOwn_tag (key : Key) : (s.answerOwn tag key).2.tag = tag := by
  simp only [State.answerOwn, State.autoCreate]
  (repeat' split) <;> rfl

@[simp] theorem State.answerAliased_tag (key : Key) (a : AliasEntry) : (s.answerAliased tag key a).2.tag = tag := by
  simp only [State.answerAliased]
  (repeat' split) <;> simp

@[simp] theorem State.answerLookup_tag (l : LinkId) (channel tone gain : Byte) :
    (s.answerLookup l tag channel tone gain).2.tag = tag := by
  simp only [State.answerLookup, State.answerKey]
  (repeat' split) <;> simp

end

/-! ## What a training, a LOOKUP and a sent frame make of their link -/

section
variable (s : State) (l : LinkId) (p : Partner)

/-- The link with its partner's facts, its counts 0 and its HELLO timer stopped, the waiting HELLO not yet removed (R145). -/
def State.withPartner (s : State) (l : LinkId) (p : Partner) : State :=
  s.withLink l { s.link l with partner := some p, faults := 0, timeouts := 0, hello := none }

theorem State.train_link_self :
    (s.train l p).link l = { ((s.withPartner l p).removeOut l OutMsg.isHello).link l with state := .up } := by
  simp [State.train, State.withPartner]

theorem State.train_link_other {m : LinkId} (h : m ≠ l) : (s.train l p).link m = s.link m := by
  simp [State.train, State.withLink_link_ne, h, State.removeOut_link_other]

variable (tag : Fin 4) (channel tone gain : Byte)

theorem State.handOver_link_self :
    ∃ c : Correction, c.tag = tag ∧
      (s.handOver l tag channel tone gain).link l =
        { s.link l with
          tags := (s.link l).tags ++ [tag], out := (s.link l).out ++ [{ body := .correction c, orphan := false }] } :=
  ⟨((s.withTag l tag).answerLookup l tag channel tone gain).2, State.answerLookup_tag _ tag l channel tone gain, by
    simp [State.handOver, State.withTag, Link.tagged]⟩

theorem State.handOver_link_other {m : LinkId} (h : m ≠ l) : (s.handOver l tag channel tone gain).link m = s.link m := by
  simp [State.handOver, State.withLink_link_ne, h]

/-- A message that answers no tag leaves with no effect on the lookups. -/
theorem State.sentEffects_lookups {m : OutMsg} (none' : m.openTag = none) (j : LinkId) :
    ((s.sentEffects l m).link j).lookups = (s.link j).lookups := by
  rw [State.sentEffects]
  split
  next => rfl
  next waits =>
    split
    next => rfl
    next c body => simp [OutMsg.openTag_eq_some.2 ⟨by simpa using waits, c, body, rfl⟩] at none'
    next => split <;> simp

end

namespace State.TagsOk

variable {s t : State}

section
variable (h : s.TagsOk)
include h

theorem link (l : LinkId) : (s.link l).TagsOk := State.tagsOk_iff.1 h l

theorem frame (same : ∀ l, (t.link l).lookups = (s.link l).lookups) : t.TagsOk :=
  State.tagsOk_iff.2 fun l => (h.link l).of_lookups (same l)

/-- One link has changed. -/
theorem update {l : LinkId} (links : ∀ m, m ≠ l → (t.link m).lookups = (s.link m).lookups) (self : (t.link l).TagsOk) :
    t.TagsOk := by
  refine State.tagsOk_iff.2 fun m => ?_
  by_cases hm : m = l
  · exact hm ▸ self
  · exact (h.link m).of_lookups (links m hm)

/-! ## Links that leave and enter their states -/

/-- Some items of a link that say nothing of its lookups have changed. -/
theorem withLink (l : LinkId) {lk : Link} (same : lk.lookups = (s.link l).lookups) : (s.withLink l lk).TagsOk :=
  h.frame (State.withLink_lookups same)

theorem departUp (l : LinkId) (reason : LinkReason) : (s.departUp l reason).TagsOk := by
  refine h.update (l := l) (fun m hm => by rw [s.departUp_link_other l reason hm]) ?_
  rw [State.departUp_link_self]
  exact .of_nil rfl ((Link.openTags_of_quiet_join rfl rfl).trans (s.removeOut_isCorrection_openTags l))

theorem leaveUp (l : LinkId) (reason : LinkReason) : (s.leaveUp l reason).TagsOk := by
  have ended : (s.sweepEnded l).TagsOk := h.frame (by simp)
  exact (ended.departUp l reason).frame (by simp [State.leaveUp_eq])

theorem protocolFault (l : LinkId) : (s.protocolFault l).TagsOk := by
  have counted : (s.withLink l { s.link l with faults := (s.link l).faults + 1 }).TagsOk := h.withLink l rfl
  rw [State.protocolFault_eq]
  split
  · exact counted.leaveUp l .protocol
  · exact counted

theorem requestTimeout (e : EngineId) (w : Sweep) : (s.requestTimeout e w).TagsOk := by
  simp only [State.requestTimeout]
  generalize ht : State.withSweep _ e _ = t
  have counted : t.TagsOk := by
    refine h.frame fun m => ?_
    rw [← ht, State.withSweep_link]
    exact State.withLink_lookups (by rfl) m
  (repeat' split)
  · exact counted.leaveUp _ .silent
  · exact counted.frame (by simp)
  · exact counted.frame (by simp)

/-- A link that has left UP, or never was UP, has no tag; entering DOWN gives it none. -/
theorem enterDown {l : LinkId} (down : (s.link l).state ≠ .up) : (s.enterDown l).TagsOk := by
  obtain ⟨tags, opens⟩ := (h.link l).nil_of_not_up down
  refine h.update (l := l) (fun m hm => by rw [s.enterDown_link_other hm]) ?_
  rw [State.enterDown, State.withLink_link]
  exact .of_nil tags ((Link.openTags_of_quiet_join rfl rfl).trans opens)

theorem quietLink (l : LinkId) : (s.quietLink l).TagsOk := by
  refine h.update (l := l) (fun m hm => by rw [s.quietLink_link_other hm]) ?_
  rw [State.quietLink_link_self]
  exact .of_nil rfl (s.removeOut_isWaiting_openTags l)

theorem disableLink (l : LinkId) : (s.disableLink l).TagsOk := by
  have enabled : (s.enableLink l false).TagsOk := h.frame (by simp)
  have takeOff {u : State} (ok : u.TagsOk) : (((u.dropLinkEntries l).quietLink l).emit (hostNotice l .off)).nextDraw.TagsOk := by
    have dropped : (u.dropLinkEntries l).TagsOk := ok.frame (by simp)
    exact (dropped.quietLink l).frame (by simp)
  simp only [State.disableLink]
  split
  · exact enabled
  · exact takeOff enabled
  · exact takeOff (enabled.frame (by simp))

theorem startReceiver (l : LinkId) : (s.startReceiver l).TagsOk := h.withLink l rfl

theorem reenableLink (l : LinkId) : (s.reenableLink l).TagsOk := by
  have enabled : (s.enableLink l true).TagsOk := h.frame (by simp)
  simp only [State.reenableLink]
  split
  next off =>
    have entered := (enabled.startReceiver l).enterDown (l := l) (by simp [State.startReceiver, off])
    exact entered.frame (by simp)
  next => exact enabled

theorem resetLink (l : LinkId) : (s.resetLink l).TagsOk := by
  have cleared {u : State} (ok : u.TagsOk) : (u.withLink l (u.link l).afterFullReset).TagsOk := ok.withLink l rfl
  rw [State.resetLink]
  split
  next => exact cleared (h.departUp l .reset)
  next down =>
    have removed : (s.removeOut l OutMsg.isHello).TagsOk := h.frame (by simp)
    exact cleared (removed.enterDown (by simp [down]))
  next off =>
    have entered := (h.startReceiver l).enterDown (l := l) (by simp [State.startReceiver, off])
    exact cleared (entered.frame (by simp))

theorem softResetFull : s.softResetFull.TagsOk := by
  have fresh : ((((s.softResetTable.withEpochCount 0).withStore Store.defaults).withAliases (Vector.replicate 8 none)).withEpoch
      { length := Params.defaults.epochMs, left := Params.defaults.epochMs }).TagsOk := h.frame (by simp)
  exact (((fresh.resetLink 0).resetLink 1).resetLink 2).resetLink 3

theorem train {l : LinkId} (p : Partner) (down : (s.link l).state ≠ .up) : (s.train l p).TagsOk := by
  refine h.update (l := l) (fun m hm => by rw [s.train_link_other l p hm]) ?_
  have told : (s.withPartner l p).TagsOk := h.withLink l rfl
  have removed : ((s.withPartner l p).removeOut l OutMsg.isHello).TagsOk := told.frame (by simp)
  obtain ⟨tags, opens⟩ := (removed.link l).nil_of_not_up (by simpa [State.withPartner] using down)
  rw [s.train_link_self l p]
  exact .of_nil tags opens

theorem helloAck (l : LinkId) (body : List Byte) : (s.helloAck l body).TagsOk := by
  simp only [State.helloAck]
  (repeat' split)
  next => exact h
  next => exact h.protocolFault l
  next down _ p _ => exact h.train p (by simp [down])
  next => exact h.frame (by simp)

/-! ## A LOOKUP, and the CORRECTION that answers it -/

theorem handOver {l : LinkId} {tag : Fin 4} (up : (s.link l).state = .up) (free : tag ∉ (s.link l).tags)
    (channel tone gain : Byte) : (s.handOver l tag channel tone gain).TagsOk := by
  refine h.update (l := l) (fun m hm => by rw [s.handOver_link_other l tag channel tone gain hm]) ?_
  obtain ⟨same, once, -⟩ := h.link l
  obtain ⟨c, hc, link⟩ := s.handOver_link_self l tag channel tone gain
  have opens := Link.openTags_of_join (lk := (s.handOver l tag channel tone gain).link l) (before := s.link l) (by rw [link])
  rw [OutMsg.openTag_eq_some.2 ⟨rfl, c, rfl, hc⟩, ← same] at opens
  rw [Link.TagsOk, opens, link]
  exact ⟨rfl, List.concat_eq_append ▸ once.concat free, fun down => absurd up down⟩

theorem lookup {l : LinkId} (up : (s.link l).state = .up) (tag channel tone gain : Byte) :
    (s.lookup l tag channel tone gain).TagsOk := by
  simp only [State.lookup]
  (repeat' split)
  next => exact h.protocolFault l
  next => exact h.protocolFault l
  next free => exact h.handOver up (by simpa using free) channel tone gain

/-- The head message leaves: a CORRECTION that waits takes its tag with it, and stood first among those that answer one. -/
theorem frameSent (l : LinkId) : (s.frameSent l).TagsOk := by
  rw [State.frameSent]
  split
  next => exact h
  next m rest head =>
    obtain ⟨same, once, closed⟩ := h.link l
    rw [Link.openTags_eq, head] at same
    cases answers : m.openTag with
    | none =>
      have left : (s.withLink l { s.link l with out := rest, txLast := m.body.frame }).TagsOk := by
        refine h.withLink l (Link.lookups_eq_iff.2 ⟨rfl, rfl, ?_⟩)
        rw [Link.openTags_eq, Link.openTags_eq, head, List.filterMap_cons_none answers]
      exact left.frame (State.sentEffects_lookups _ l answers)
    | some tag =>
      rw [List.filterMap_cons_some answers] at same
      obtain ⟨waits, c, body, rfl⟩ := OutMsg.openTag_eq_some.1 answers
      rw [State.sentEffects_correction waits body, State.withLink_withLink, State.withLink_link]
      refine h.update (l := l) (fun j hj => by rw [State.withLink_link_ne _ hj]) ?_
      rw [same, List.nodup_cons] at once
      have freed : (s.link l).tags.filter (· != c.tag) = rest.filterMap OutMsg.openTag := by
        rw [same, List.filter_cons_of_neg (by simp), List.filter_eq_self]
        intro t ht
        simpa using fun e : t = c.tag => once.1 (e ▸ ht)
      rw [State.withLink_link]
      exact ⟨freed, freed ▸ once.2, fun down => by simp [closed down]⟩

/-! ## Requests -/

theorem actLinkControl (body : List Byte) : (actLinkControl body s).state.TagsOk := by
  simp only [Machine.actLinkControl]
  (repeat' split)
  · exact h
  · exact h
  · exact h
  · exact h.reenableLink _
  · exact h.disableLink _

theorem actSoftReset (body : List Byte) : (actSoftReset body s).state.TagsOk := by
  simp only [Machine.actSoftReset]
  (repeat' split)
  · exact h
  · exact h
  · exact h.softResetFull.frame (by simp)
  · exact h.frame (by simp)

theorem actByKind (kind : Byte) (body : List Byte) : (actByKind kind body s).state.TagsOk := by
  simp only [Machine.actByKind]
  split
  next act found =>
    simp only [actOf?] at found
    split at found <;> cases found
    -- Of the twenty kinds only LINK_CONTROL (18) and SOFT_RESET (20) reach a link's lookups.
    case h_18 => exact h.actLinkControl body
    case h_20 => exact h.actSoftReset body
    all_goals
      exact h.frame (by
        simp [actRead_state, actScan_state, actAliasRead_state, actTonePlanRead_state, actLevelRead_state, actConfigGet_state,
          actStatus_state])
  next => exact h

/-- A request is acted on by its kind, and answered on the Host Port. -/
theorem takeRequest (kind : Byte) (body : List Byte) : (s.takeRequest kind body (Machine.actByKind kind)).TagsOk := by
  have begun : s.beginRequest.TagsOk := h.frame (by simp)
  simp only [State.takeRequest]
  split
  · exact (begun.actByKind kind body).frame (by simp)
  · exact h

/-! ## Frames -/

theorem takeFrame (l : LinkId) (kind : Byte) (body : List Byte) : (s.takeFrame l kind body).TagsOk := by
  simp only [State.takeFrame, State.takeUp]
  split
  next => exact h
  next =>
    split
    next => exact h.helloAck l body
    next => exact h
  next up =>
    (repeat' split)
    · exact h.lookup up _ _ _ _
    · exact h.frame (by simp)
    · exact h.frame (by simp)
    · exact h.frame (by simp)
    · exact h.leaveUp l .partner
    · exact h.protocolFault l

omit h in
theorem arrive {act : State → State} (l : LinkId) (kind : Byte) (body : List Byte)
    (keeps : ∀ {s : State}, s.TagsOk → (act s).TagsOk) (h : s.TagsOk) : (s.arrive l kind body act).TagsOk := by
  simp only [State.arrive]
  split
  · exact h
  · exact keeps (h.frame (by simp))

omit h in
theorem arriveUp {act : State → State} (l : LinkId) (kind : Byte) (body : List Byte)
    (keeps : ∀ {s : State}, s.TagsOk → (s.link l).state = .up → (act s).TagsOk) (h : s.TagsOk) :
    (s.arrive l kind body fun s => s.whenUp l (act s)).TagsOk := by
  refine arrive l kind body (fun {s} h => ?_) h
  simp only [State.whenUp]
  split
  next up => exact keeps h up
  next => exact h

/-! ## The commands -/

omit h in
theorem reset : State.reset.TagsOk := by
  refine State.tagsOk_iff.2 fun l => ?_
  have fresh : State.reset.link l = Link.reset l := by fin_cases l <;> rfl
  rw [fresh]
  exact .of_nil rfl rfl

theorem exec {c : Instr} (e : exec c s = .next t) : t.TagsOk := by
  cases c with
  | powerOnReset csLow =>
    cases e
    exact reset
  | rstNAsserted =>
    cases e
    exact h.frame (by simp)
  | requestWrite | replyRead | portStatus | commandByteUnknown | epochExpiry | retryCountdownExpiry | dispatch =>
    exact Kept.running h (h.frame (by simp)) e
  | unknownKind | create | load | read | retire | setPolicyFixed | setPolicyAuto | refresh | refreshScope | scan | aliasSet
  | aliasClear | aliasRead | tonePlanSet | tonePlanRead | levelSet | levelRead | configSet | configGet | linkControlDisable
  | linkControlEnable | status | softResetTable | softResetFull | setPolicyRefused | linkControlRefused | softResetRefused =>
    rw [exec_request rfl] at e
    exact Kept.running h (h.takeRequest _ _) e
  | partnerCheck | waitTimerExpiry =>
    refine Kept.running h ?_ e
    (repeat' split) <;> exact h.frame (by simp)
  | requestTimerExpiry engine =>
    refine Kept.running h ?_ e
    (repeat' split)
    · exact h.requestTimeout engine _
    · exact h
    · exact h
  | helloTimerExpiry link =>
    refine Kept.running h ?_ e
    split
    · refine h.withLink link (Link.lookups_eq_iff.2 ⟨rfl, rfl, ?_⟩)
      split
      · rfl
      · exact Link.openTags_of_quiet_join rfl rfl
    · exact h
  | outboundFrameSent link => exact Kept.running h (h.frameSent link) e
  | frameCheckFailure | incompleteFrame =>
    refine Kept.running h ?_ e
    split
    · exact h
    · exact h.frame (by simp)
  | helloAck link body => exact Kept.running h (arrive link _ _ (fun h => h.helloAck link body) h) e
  | lookup link tag channel tone gain =>
    exact Kept.running h (arriveUp link _ _ (fun h up => h.lookup up tag channel tone gain) h) e
  | calResult link | calDeclined link | driftAlert link =>
    exact Kept.running h (arriveUp link _ _ (fun h _ => h.frame (by simp)) h) e
  | goodbye link => exact Kept.running h (arriveUp link _ _ (fun h _ => h.leaveUp link .partner) h) e
  | unknownFrameKind link kind body => exact Kept.running h (arrive link _ _ (fun h => h.takeFrame link kind body) h) e

theorem step (e : step s = .next t) : t.TagsOk := by
  simp only [Machine.step] at e
  split at e
  · cases e
    exact h
  next rest _ =>
    have popped : ({ s with pending := rest } : State).TagsOk := h
    exact popped.exec e

end

end State.TagsOk

/-- Settles O11: a LOOKUP brings its tag and its CORRECTION together, the sent frame takes both, and a link that leaves UP loses
all. -/
theorem outstandingTagsMatchCorrections : Obligations.OutstandingTagsMatchCorrections := fun _ _ h e => h.step e

end Sys2Proof.Machine
end

section
/-! Frames that the receiver drops (O54). -/

namespace Sys2Proof.Machine

theorem hunt_sync (chars : List Byte) : hunt (sync :: chars) = sync :: chars := by simp [hunt]

/-- A whole frame whose check byte is wrong fails (R141). -/
theorem judgeFrame_badCheck {kind length check : Byte} {body : List Byte} (fits : length.toNat ≤ 40)
    (whole : body.length = length.toNat) (wrong : check ≠ crc8 (kind :: length :: body)) :
    judgeFrame (sync :: kind :: length :: (body ++ [check])) = .badCheck := by
  have body' : (body ++ [check]).take length.toNat = body := by simp [← whole]
  have check' : byteAt (body ++ [check]) length.toNat = check := by simp [byteAt, ← whole]
  rw [judgeFrame, if_neg (Nat.not_lt.2 fits), if_neg (by simp [whole]), body', check']
  exact if_neg (Ne.symm wrong)

/-- A length above 40 fails at once (R141). -/
theorem judgeFrame_tooLong {kind length : Byte} (long : 40 < length.toNat) (more : List Byte) :
    judgeFrame (sync :: kind :: length :: more) = .tooLong := if_pos long

/-- After a failed frame hunting resumes at the character after its sync (R141). -/
theorem afterFailure_failed {chars : List Byte}
    (failed : judgeFrame (sync :: chars) = .badCheck ∨ judgeFrame (sync :: chars) = .tooLong) :
    afterFailure (sync :: chars) false = chars.dropWhile fun b => b != sync := by
  have resumed : hunt chars = chars.dropWhile fun b => b != sync := by
    rw [hunt]
    congr 1
    funext b
    exact Bool.eq_iff_iff.2 (by simp)
  rw [afterFailure, hunt_sync, ← resumed]
  obtain h | h := failed <;> rw [h] <;> rfl

section
variable {s : State} {l : LinkId}

theorem exec_frameCheckFailure_on (running : s.rstN = true) (on : (s.link l).state ≠ .off) (chars : List Byte) (stop : Bool) :
    exec (.frameCheckFailure l chars stop) s = .next (s.withRx l (afterFailure ((s.link l).rx ++ chars) stop)) :=
  (whileRunning_of_high running).trans (congrArg _ (if_neg on))

/-- A failed frame that hunting met whole is dropped. -/
theorem exec_frameCheckFailure_failed (running : s.rstN = true) (on : (s.link l).state ≠ .off) (hunting : (s.link l).rx = [])
    {chars : List Byte} (failed : judgeFrame (sync :: chars) = .badCheck ∨ judgeFrame (sync :: chars) = .tooLong) :
    exec (.frameCheckFailure l (sync :: chars) false) s = .next (s.withRx l (chars.dropWhile fun b => b != sync)) := by
  rw [exec_frameCheckFailure_on running on, hunting, List.nil_append, afterFailure_failed failed]

theorem exec_incompleteFrame_on (running : s.rstN = true) (on : (s.link l).state ≠ .off) :
    exec (.incompleteFrame l) s = .next (s.withRx l []) :=
  (whileRunning_of_high running).trans (congrArg _ (if_neg on))

end

/-- Settles O54: a link that is not OFF holds what its receiver makes of the characters, and nothing else changes. -/
theorem damagedFramesOnlyResetReceiver : Obligations.DamagedFramesOnlyResetReceiver := by
  refine fun s l running => ⟨fun off => ⟨?offGap, fun chars stop => ?offFailure⟩, fun on => ⟨?gap, fun chars => ?noStop,
    fun kind length check body hunting fits whole wrong => ?badCheck, fun kind length hunting long => ?tooLong⟩⟩
  case offGap => exact (whileRunning_of_high running).trans (congrArg _ (if_pos off))
  case offFailure => exact (whileRunning_of_high running).trans (congrArg _ (if_pos off))
  case gap => exact exec_incompleteFrame_on running on
  case noStop => exact exec_frameCheckFailure_on running on chars true
  case badCheck => exact exec_frameCheckFailure_failed running on hunting (.inl (judgeFrame_badCheck fits whole wrong))
  case tooLong => exact exec_frameCheckFailure_failed running on hunting (.inr (judgeFrame_tooLong long []))

end Sys2Proof.Machine
end

section
/-! LINK_CONTROL ENABLE (O40): an OFF link enters DOWN in one write of its controller, any other keeps its state. -/

namespace Sys2Proof.Machine

section
variable (s : State) (l : LinkId)

/-- A link that was OFF, once it is DOWN: its receiver hunts, and its HELLO waits (R144, R157). -/
def Link.reentered (lk : Link) (l : LinkId) : Link :=
  { lk with
    state := .down
    out := lk.out ++ [{ body := .hello l, orphan := false }]
    hello := some 10
    refusalReported := false
    rx := [] }

theorem State.startReceiver_enterDown : (s.startReceiver l).enterDown l = s.withLink l ((s.link l).reentered l) := by
  rw [State.startReceiver, State.enterDown, State.withLink_withLink, State.withLink_link]
  rfl

/-- An OFF link is enabled: it enters DOWN and LINK_STATE is emitted (R157). -/
theorem State.reenableLink_off (off : (s.link l).state = .off) (host : HostPort) :
    (s.withHost host).reenableLink l =
      ((s.enableLink l true).withLink l ((s.link l).reentered l)).withHost
        (host.emitted s.params.noticeMask [hostNotice l .down]) := by
  rw [State.reenableLink, State.withHost_link, off]
  simp only [State.startReceiver_enterDown, State.emit_eq]
  rfl

theorem State.reenableLink_on (on : (s.link l).state ≠ .off) : s.reenableLink l = s.enableLink l true := by
  rw [State.reenableLink]
  cases state : (s.link l).state with
  | off => exact absurd state on
  | _ => rfl

theorem actLinkControl_enable {s t : State} {l : LinkId} {state : LinkState} (id : Byte) (enabled : s.reenableLink l = t)
    (entered : (t.link l).state = state) :
    actLinkControl [id, byte l.val, 0x01#8] s = { state := t, status := .ok, payload := [byte l.val, state.code] } := by
  have named : finOf? 4 (byteAt [id, byte l.val, 0x01#8] 1).toNat = some l := by
    rw [finOf?_some, show byteAt [id, byte l.val, 0x01#8] 1 = byte l.val from rfl, byte_toNat]
    omega
  have code : switchOf? (byteAt [id, byte l.val, 0x01#8] 2) = some true := switchOf?_code true
  rw [actLinkControl, named]
  simp only [code, if_true, enabled, ← entered]
  rfl

end

/-- Settles O40: an OFF link enters DOWN and emits its notice ahead of the reply, and any other only has its mask bit set. -/
theorem enableTakesLinkDown : Obligations.EnableTakesLinkDown := by
  refine fun s id l takes => ⟨fun off => ?enters, fun on => ?stays⟩
  case enters =>
    exact State.whileRunning_takes_noticed (kind := kindLinkControl)
      (t := (s.enableLink l true).withLink l ((s.link l).reentered l)) takes fun host =>
        actLinkControl_enable (state := .down) id (s.reenableLink_off l off host) (by simp [Link.reentered])
  case stays =>
    exact State.whileRunning_takes_quiet (kind := kindLinkControl) (t := s.enableLink l true) takes fun host =>
      actLinkControl_enable id ((s.withHost host).reenableLink_on l on) rfl

end Sys2Proof.Machine
end

section
/-! HELLO_ACK on a DOWN link trains it or is refused (O55). -/

namespace Sys2Proof.Machine

/-! ## The body of a HELLO_ACK (R145) -/

/-- A HELLO_ACK body that R145 accepts, by its bytes. -/
def HelloAckValid (body : List Byte) : Prop :=
  body.length = 3 ∧ body.getD 0 0 = 0x01#8 ∧ 1 ≤ (body.getD 1 0).toNat ∧ (body.getD 1 0).toNat ≤ 8
    ∧ 1 ≤ (body.getD 2 0).toNat ∧ (body.getD 2 0).toNat < 64

/-- The facts that such a body declares. -/
def helloAckPartner (body : List Byte) : Partner := { level := 0x01#8, channels := body.getD 1 0, toneMask := body.getD 2 0 }

theorem partnerOf?_valid {body : List Byte} (valid : HelloAckValid body) : partnerOf? body = some (helloAckPartner body) := by
  obtain ⟨length, level, least, most, some', within⟩ := valid
  have nonzero : body.getD 2 0 ≠ 0x00#8 := fun zero => absurd some' (by rw [zero]; decide)
  rw [helloAckPartner, ← level]
  exact if_pos ⟨length, level, least, most, nonzero, within⟩

theorem partnerOf?_invalid {body : List Byte} (invalid : ¬HelloAckValid body) : partnerOf? body = none := by
  refine if_neg fun ⟨length, level, least, most, nonzero, within⟩ => invalid ⟨length, level, least, most, ?_, within⟩
  rw [Nat.one_le_iff_ne_zero]
  exact fun zero => nonzero (BitVec.eq_of_toNat_eq zero)

/-! ## By the link's state -/

section
variable {s : State} {l : LinkId} {body : List Byte}

theorem exec_helloAck_on (running : s.rstN = true) (on : (s.link l).state ≠ .off) :
    exec (.helloAck l body) s = .next ((s.receivedOn l 0x11#8 body).helloAck l body) :=
  (whileRunning_of_high running).trans (congrArg _ (State.arrive_on on _))

theorem State.helloAck_trains {p : Partner} (down : (s.link l).state = .down) (valid : partnerOf? body = some p) :
    s.helloAck l body = s.train l p := by
  rw [State.helloAck, down, valid]

theorem State.helloAck_refuses (down : (s.link l).state = .down) (invalid : partnerOf? body = none) :
    s.helloAck l body = s.refusePartner l body := by
  rw [State.helloAck, down, invalid]

end

/-! ## A training (R145) -/

theorem OutMsg.isHello_eq (m : OutMsg) : m.isHello = (!m.orphan && m.helloOf) := rfl

section
variable (s : State) (l : LinkId) (p : Partner)

/-- A training changes nothing of its link but what R145 names. -/
theorem State.train_link_rest :
    { (s.train l p).link l with out := (s.link l).out } =
      { s.link l with state := .up, partner := some p, faults := 0, timeouts := 0, hello := none } := by
  have rest := (s.withPartner l p).removeOut_link_rest l OutMsg.isHello
  rw [State.withPartner, State.withLink_link] at rest
  rw [State.train_link_self]
  exact congrArg (fun lk : Link => { lk with state := .up }) rest

theorem State.train_out :
    (∀ m ∈ ((s.train l p).link l).out, m.helloOf = true → m.orphan = true)
      ∧ OnlyHeadFinishes (s.link l).out ((s.train l p).link l).out := by
  have before : ((s.withPartner l p).link l).out = (s.link l).out := by simp [State.withPartner]
  rw [State.train_link_self, ← before]
  refine ⟨fun m stood hello => ?_, (s.withPartner l p).removeOut_onlyHead l _ fun m hm => ?_⟩
  · by_contra waits
    have unmet := (s.withPartner l p).removeOut_out_unmet l _ m stood (by simpa using waits)
    simp [OutMsg.isHello_eq, hello, waits] at unmet
  · rw [OutMsg.isHello_eq, Bool.and_eq_true] at hm
    simpa using hm.1

theorem State.train_host :
    (s.train l p).host = s.host.emitted s.params.noticeMask [.linkState l .up .trained p.level p.channels p.toneMask 0 0] := by
  simp [State.train, State.emit_host]

end

/-- Settles O55: a valid HELLO_ACK trains the link, any other is refused once in a DOWN period. -/
theorem helloAckTrainsOrIsRefused : Obligations.HelloAckTrainsOrIsRefused := by
  intro s l body running u valid
  have received : (u.link l).state = (s.link l).state := State.receivedOn_link_state l
  refine ⟨fun down ok => ?trains, fun down refused => ?refuses, fun up => ?faults, fun off => ?off⟩
  case trains =>
    have trained : exec (.helloAck l body) s = .next (u.train l (helloAckPartner body)) := by
      rw [exec_helloAck_on running (by simp [down]), State.helloAck_trains (received.trans down) (partnerOf?_valid ok)]
    have rest := u.train_link_rest l (helloAckPartner body)
    obtain ⟨hello, onlyHead⟩ := u.train_out l (helloAckPartner body)
    rw [State.receivedOn_link_self] at rest onlyHead
    refine ⟨u.train l (helloAckPartner body), trained, congrArg Link.state rest, congrArg Link.partner rest,
      congrArg Link.faults rest, congrArg Link.timeouts rest, congrArg Link.hello rest, hello, onlyHead, ?rest,
      fun m other => ?others, ?due, u.train_host l (helloAckPartner body), ?frame⟩
    case rest =>
      exact congrArg (fun lk : Link =>
        { lk with
          state := (s.link l).state, partner := (s.link l).partner, faults := (s.link l).faults, timeouts := (s.link l).timeouts,
          hello := (s.link l).hello, rx := (s.link l).rx }) rest
    case others => exact (u.train_link_other l (helloAckPartner body) other).trans (State.withLink_link_ne s other _)
    case due => simp [State.train]
    case frame => apply State.eq_of_fields <;> simp [u, State.receivedOn]
  case refuses =>
    rw [exec_helloAck_on running (by simp [down]), State.helloAck_refuses (received.trans down) (partnerOf?_invalid refused),
      State.refusePartner, State.receivedOn_link_self, State.emit_eq]
    rfl
  case faults =>
    rw [exec_helloAck_on running (by simp [up]), State.helloAck, received.trans up]
  case off => exact (whileRunning_of_high running).trans (congrArg _ (State.arrive_off off _))

end Sys2Proof.Machine
end

section
/-! The Host Port's own operations: a notice that claims its place (O18), the rises and falls of CS_N, and the transactions that
read the status or name no kind (O17). -/

namespace Sys2Proof.Machine

/-! ## A notice claims its place (R170) -/

section
variable {h : HostPort}

theorem HostPort.claim_joins (clear : h.overflow = .clear) (room : h.placeFree = true) (few : h.notices < 31) (n : Notice) :
    h.claim n = { h with out := h.out ++ [.notice n] } := by
  simp [HostPort.claim, clear, room, few]

theorem HostPort.claim_overflows (clear : h.overflow = .clear) (room : h.placeFree = true) (most : 31 ≤ h.notices) (n : Notice) :
    h.claim n = { h with out := h.out ++ [.overflow], overflow := .queued, overflowCount := 1, overflowSince := 0 } := by
  simp [HostPort.claim, clear, room, Nat.not_lt.2 most]

theorem HostPort.claim_withheld (clear : h.overflow = .clear) (full : h.placeFree = false) (n : Notice) :
    h.claim n = { h with overflow := .held, overflowCount := 1 } := by
  simp [HostPort.claim, clear, full]

theorem HostPort.claim_of_held (held : h.overflow = .held) (n : Notice) :
    h.claim n = { h with overflowCount := countUp h.overflowCount } := by
  simp [HostPort.claim, held]

theorem HostPort.claim_of_queued (queued : h.overflow = .queued) (n : Notice) :
    h.claim n = { h with overflowCount := countUp h.overflowCount, overflowSince := countUp h.overflowSince } := by
  simp [HostPort.claim, queued]

end

section
variable (h : HostPort) (n : Notice)

/-- The rows of R170's table. -/
theorem HostPort.claim_rows :
    (h.overflow = .clear ∧ h.placeFree = true ∧ h.notices < 31)
      ∨ (h.overflow = .clear ∧ h.placeFree = true ∧ 31 ≤ h.notices)
      ∨ (h.overflow = .clear ∧ h.placeFree = false) ∨ h.overflow = .held ∨ h.overflow = .queued := by
  cases h.overflow <;> cases h.placeFree <;> simp [Nat.lt_or_ge]

/-- A claim reads and changes the outbound queue and the overflow state alone. -/
theorem HostPort.claim_inbound (requests : List Request) (free : Nat) (txn : Transaction) (miso : List Byte) :
    ({ h with requests := requests, inboundFree := free, txn := txn, miso := miso } : HostPort).claim n =
      { h.claim n with requests := requests, inboundFree := free, txn := txn, miso := miso } := by
  rcases h.claim_rows with ⟨clear, room, few⟩ | ⟨clear, room, most⟩ | ⟨clear, full⟩ | held | queued
  · rw [HostPort.claim_joins clear room few]
    exact HostPort.claim_joins (by exact clear) (by exact room) (by exact few) n
  · rw [HostPort.claim_overflows clear room most]
    exact HostPort.claim_overflows (by exact clear) (by exact room) (by exact most) n
  · rw [HostPort.claim_withheld clear full]
    exact HostPort.claim_withheld (by exact clear) (by exact full) n
  · rw [HostPort.claim_of_held held]
    exact HostPort.claim_of_held (by exact held) n
  · rw [HostPort.claim_of_queued queued]
    exact HostPort.claim_of_queued (by exact queued) n

/-- A claim leaves the inbound side, the transaction and the place held for a reply. -/
@[simp] theorem HostPort.claim_frame :
    (h.claim n).requests = h.requests ∧ (h.claim n).inboundFree = h.inboundFree ∧ (h.claim n).txn = h.txn
      ∧ (h.claim n).heldPlace = h.heldPlace ∧ (h.claim n).miso = h.miso := by
  simp only [HostPort.claim]
  (repeat' split) <;> simp

end

theorem HostPort.placeFree_iff {h : HostPort} : h.placeFree = true ↔ h.out.length + (if h.heldPlace then 1 else 0) < 48 := by
  rw [HostPort.placeFree, decide_eq_true_iff]

theorem countUp_eq_min {n : Nat} (h : n ≤ 65535) : countUp n = min (n + 1) 65535 := by
  simp only [countUp, Config.maxOverflow]
  split <;> omega

theorem State.emit_on {s : State} {n : Notice} (on : namesWide s.params.noticeMask n.maskBit = true) :
    s.emit n = s.withHost (s.host.claim n) := by
  simp [State.emit, on]

theorem State.emit_off {s : State} {n : Notice} (off : namesWide s.params.noticeMask n.maskBit = false) : s.emit n = s := by
  simp [State.emit, off]

/-- Settles O18, by the overflow state, then by room and the notices queued. -/
theorem noticeClaimsPlace : Obligations.NoticeClaimsPlace := by
  refine ⟨fun h n => ⟨fun clear room few => ?joins, fun clear room most => ?overflows, fun clear full => ?withheld,
    fun counting small => ?counts⟩, fun s n => State.emit_off⟩
  case joins => exact HostPort.claim_joins clear (HostPort.placeFree_iff.2 room) few n
  case overflows => exact HostPort.claim_overflows clear (HostPort.placeFree_iff.2 room) most.ge n
  case withheld =>
    have full : h.placeFree = false := Bool.eq_false_iff.2 (HostPort.placeFree_iff.not.2 (Nat.not_lt.2 full))
    exact HostPort.claim_withheld clear full n
  case counts =>
    cases state : h.overflow with
    | clear => exact absurd state counting
    | held => simp [HostPort.claim_of_held state, countUp_eq_min small, state]
    | queued => simp [HostPort.claim_of_queued state, countUp_eq_min small, state]

section
variable (s : State) (n : Notice)

/-- A notice leaves the inbound side, the transaction and the place held for a reply. -/
@[simp] theorem State.emit_host_frame :
    (s.emit n).host.requests = s.host.requests ∧ (s.emit n).host.inboundFree = s.host.inboundFree
      ∧ (s.emit n).host.txn = s.host.txn ∧ (s.emit n).host.heldPlace = s.host.heldPlace
      ∧ (s.emit n).host.miso = s.host.miso := by
  simp only [State.emit]
  split <;> simp

/-- A notice comes before or after a change of the inbound side alike. -/
theorem State.emit_inbound (requests : List Request) (free : Nat) (txn : Transaction) (miso : List Byte) :
    (s.withHost { s.host with requests := requests, inboundFree := free, txn := txn, miso := miso }).emit n =
      (s.emit n).withHost { (s.emit n).host with requests := requests, inboundFree := free, txn := txn, miso := miso } := by
  cases on : namesWide s.params.noticeMask n.maskBit with
  | true =>
    rw [State.emit_on on, State.emit_on (by exact on), State.withHost_host, HostPort.claim_inbound]
    rfl
  | false => rw [State.emit_off on, State.emit_off (by exact on)]

theorem State.emit_withTxn (t : Transaction) : (s.withTxn t).emit n = (s.emit n).withTxn t := by
  refine (s.emit_inbound n _ _ t _).trans ?_
  simp only [State.withTxn]
  congr 1
  simp

end

/-! ## The rise and the fall of CS_N (R164, R168) -/

/-- The state once these bytes have been shifted on MISO (log 17). -/
def State.onMiso (s : State) (bytes : List Byte) : State := s.withHost { s.host with miso := bytes }

/-- A transaction in which no message is in reception: CS_N ends it cleanly. -/
def Transaction.clean : Transaction → Bool
  | .requestWrite (.header _ _) => false
  | .requestWrite (.body _ _ _) => false
  | _ => true

section
variable {s : State}

theorem State.csFall_of_high (high : s.host.txn = .none) (cmd : Byte) : s.csFall cmd = s.openWith cmd := by
  rw [State.csFall, if_pos high]

theorem State.csRise_clean (clean : s.host.txn.clean = true) : s.csRise = s.withTxn .none := by
  simp only [State.csRise]
  split
  next e => simp [e, Transaction.clean] at clean
  next e => simp [e, Transaction.clean] at clean
  next => rfl

theorem State.csRise_header {kind : Byte} {first : Option Byte} (header : s.host.txn = .requestWrite (.header kind first)) :
    s.csRise = (s.withTxn .none).emit (.hostFraming .csRise kind (if first.isSome then 2 else 1)) := by
  simp only [State.csRise, header]

/-- The bytes of a message that is cut are free again. -/
theorem State.csRise_body {kind : Byte} {length : Nat} {written : List Byte}
    (body : s.host.txn = .requestWrite (.body kind length written)) :
    s.csRise =
      (s.withHost { s.host with txn := .none, inboundFree := s.host.inboundFree + (3 + length) }).emit
        (.hostFraming .csRise kind (3 + written.length)) := by
  simp only [State.csRise, body]
  rfl

/-- A whole transaction that ends cleanly leaves what it shifted on MISO. -/
theorem State.endSegment_clean (clean : s.host.txn.clean = true) (shifted : List Byte) :
    s.endSegment true true shifted = (s.withTxn .none).onMiso (0x00#8 :: shifted) := by
  rw [State.endSegment, if_pos rfl, State.csRise_clean (by exact clean)]
  rfl

/-- A transaction that is opened and closed again leaves CS_N high. -/
theorem State.withTxn_none (high : s.host.txn = .none) (t : Transaction) : (s.withTxn t).withTxn .none = s := by
  simp [State.withTxn, State.withHost, ← high]

end

/-! ## Transactions that read the status or name no kind (R164, R173) -/

section
variable {s : State} (running : s.rstN = true) (high : s.host.txn = .none)
include running high

theorem exec_portStatus_whole (n : Nat) :
    exec (.portStatus true n true) s =
      .next (s.onMiso (0x00#8 :: (s.host.statusBytes.take n ++ zeros (n - s.host.statusBytes.length)))) := by
  refine (whileRunning_of_high running).trans (congrArg _ ?_)
  have opened : s.csFall 0x3C#8 = s.withTxn (.portStatus s.host.statusBytes) := State.csFall_of_high high _
  simp only [State.statusSegment, if_true, opened]
  exact (State.endSegment_clean rfl _).trans (congrArg (State.onMiso · _) (State.withTxn_none high _))

theorem exec_commandByteUnknown_whole {cmd : Byte} (n : Nat) (write : cmd ≠ 0x6E#8) (read : cmd ≠ 0x9B#8)
    (status : cmd ≠ 0x3C#8) :
    exec (.commandByteUnknown cmd true n true) s =
      .next ((s.emit (.hostFraming .command cmd 0)).onMiso (zeros (n + 1))) := by
  refine (whileRunning_of_high running).trans (congrArg _ ?_)
  have opened : s.csFall cmd = (s.emit (.hostFraming .command cmd 0)).withTxn .ignored := by
    rw [State.csFall_of_high high, State.openWith, if_neg write, if_neg read, if_neg status, State.emit_withTxn]
  simp only [State.ignoredSegment, if_true, opened]
  exact (State.endSegment_clean rfl _).trans (congrArg (State.onMiso · _) (State.withTxn_none (by simp [high]) _))

end

/-- Bytes with 00h behind them, as far as they are shifted. -/
theorem take_append_zeros (bytes : List Byte) (n : Nat) :
    (bytes ++ List.replicate n 0x00#8).take n = bytes.take n ++ zeros (n - bytes.length) := by
  rw [List.take_append, List.take_replicate, Nat.min_eq_left (Nat.sub_le ..), zeros]

/-- Settles O17. -/
theorem portStatusAndUnknownCommandByte : Obligations.PortStatusAndUnknownCommandByte := by
  refine ⟨fun s n running high => ?_, fun s cmd n running high write read status =>
    exec_commandByteUnknown_whole running high n write read status⟩
  rw [exec_portStatus_whole running high, ← take_append_zeros]
  rfl

end Sys2Proof.Machine
end

section
/-! Whole request writes: a message that fits is stored (O13), one that does not, or that is cut, is reported (O14). -/

namespace Sys2Proof.Machine

/-! ## The bytes of a message (R165) -/

@[simp] theorem hostFrame_length (kind : Byte) (body : List Byte) : (hostFrame kind body).length = body.length + 3 := by
  simp [hostFrame, bytes2]

section
variable (s : State)

theorem State.receiveBytes_withTxn (r : Receive) (b : Byte) (rest : List Byte) :
    (s.withTxn (.requestWrite r)).receiveBytes (b :: rest) =
      ((s.withTxn (.requestWrite r)).receiveByte r b).receiveBytes rest := rfl

/-- Idle bytes between messages are skipped. -/
theorem State.receiveBytes_idle (idle : Nat) (rest : List Byte) :
    (s.withTxn (.requestWrite .hunt)).receiveBytes (List.replicate idle 0x00#8 ++ rest) =
      (s.withTxn (.requestWrite .hunt)).receiveBytes rest := by
  induction idle with
  | zero => rfl
  | succ n ih => exact ih

theorem State.receiveBytes_kind {kind : Byte} (named : kind ≠ 0x00#8) (rest : List Byte) :
    (s.withTxn (.requestWrite .hunt)).receiveBytes (kind :: rest) =
      (s.withTxn (.requestWrite (.header kind none))).receiveBytes rest := by
  rw [State.receiveBytes_withTxn, State.receiveByte, if_neg named]
  rfl

/-- The length bytes are judged with the second of them. -/
theorem State.receiveBytes_header {kind : Byte} (named : kind ≠ 0x00#8) (high low : Byte) (rest : List Byte) :
    (s.withTxn (.requestWrite .hunt)).receiveBytes (kind :: high :: low :: rest) =
      (s.judgeLength kind (high.toNat * 256 + low.toNat)).receiveBytes rest :=
  s.receiveBytes_kind named _

/-- A message up to its length bytes. -/
theorem State.receiveBytes_hostFrame {kind : Byte} (named : kind ≠ 0x00#8) {body : List Byte} (short : body.length ≤ 260) :
    (s.withTxn (.requestWrite .hunt)).receiveBytes (hostFrame kind body) = (s.judgeLength kind body.length).receiveBytes body := by
  refine (s.receiveBytes_header named _ _ body).trans ?_
  rw [bytes2_read (by omega)]

/-- Body bytes short of the message's end (R165). -/
theorem State.receiveBytes_part (kind : Byte) (length : Nat) (written bytes : List Byte)
    (short : written.length + bytes.length < length) :
    (s.withTxn (.requestWrite (.body kind length written))).receiveBytes bytes =
      s.withTxn (.requestWrite (.body kind length (written ++ bytes))) := by
  induction bytes generalizing written with
  | nil => simp [State.receiveBytes]
  | cons b rest ih =>
    rw [List.length_cons] at short
    rw [State.receiveBytes_withTxn, State.receiveByte, if_pos (by omega)]
    refine (ih (written ++ [b]) (by simp; omega)).trans ?_
    rw [List.append_assoc, List.singleton_append]

/-- The last body byte makes the message a request (R165). -/
theorem State.receiveBytes_whole (kind : Byte) (length : Nat) (written bytes : List Byte) (some' : bytes ≠ [])
    (whole : written.length + bytes.length = length) :
    (s.withTxn (.requestWrite (.body kind length written))).receiveBytes bytes = s.storeRequest kind (written ++ bytes) := by
  induction bytes generalizing written with
  | nil => exact absurd rfl some'
  | cons b rest ih =>
    rw [State.receiveBytes_withTxn, State.receiveByte]
    cases rest with
    | nil =>
      rw [if_neg (by simp at whole; omega)]
      rfl
    | cons c more =>
      simp only [List.length_cons] at whole
      rw [if_pos (by omega)]
      refine (ih (written ++ [b]) (List.cons_ne_nil _ _) (by simp; omega)).trans ?_
      rw [List.append_assoc, List.singleton_append]

/-- Body bytes of a message that does not fit are consumed to its end (R167). -/
theorem State.receiveBytes_discard (bytes : List Byte) (some' : bytes ≠ []) :
    (s.withTxn (.requestWrite (.discardMessage bytes.length))).receiveBytes bytes = s.withTxn (.requestWrite .hunt) := by
  induction bytes with
  | nil => exact absurd rfl some'
  | cons b rest ih =>
    rw [State.receiveBytes_withTxn, State.receiveByte]
    cases rest with
    | nil => rfl
    | cons c more => exact ih (List.cons_ne_nil _ _)

/-- After a length above 260 the rest of the transaction is ignored (R168). -/
theorem State.receiveBytes_ignore (bytes : List Byte) :
    (s.withTxn (.requestWrite .discardTransaction)).receiveBytes bytes = s.withTxn (.requestWrite .discardTransaction) := by
  induction bytes with
  | nil => rfl
  | cons b rest ih => exact ih

end

/-! ## The length is judged (R167, R168) -/

section
variable (s : State) (kind : Byte)

theorem State.judgeLength_long {length : Nat} (long : 260 < length) :
    s.judgeLength kind length =
      (s.emit (.hostFraming .length kind 3)).withTxn (.requestWrite .discardTransaction) := by
  rw [State.judgeLength, if_pos long, State.emit_withTxn]

/-- The bytes of a message that fits are taken from the free ones (R165). -/
def State.reserve (s : State) (length : Nat) : State :=
  s.withHost { s.host with inboundFree := s.host.inboundFree - (3 + length) }

theorem State.judgeLength_fits {length : Nat} (short : length ≤ 260) (fits : 3 + length ≤ s.host.inboundFree) :
    s.judgeLength kind length =
      if length = 0 then (s.reserve length).storeRequest kind []
      else (s.reserve length).withTxn (.requestWrite (.body kind length [])) := by
  rw [State.judgeLength, if_neg (Nat.not_lt.2 short), if_pos fits]
  rfl

theorem State.judgeLength_overrun {length : Nat} (short : length ≤ 260) (full : s.host.inboundFree < 3 + length) :
    s.judgeLength kind length =
      (s.emit (.hostOverrun kind length s.host.inboundFree)).withTxn
        (.requestWrite (if length = 0 then .hunt else .discardMessage length)) := by
  rw [State.judgeLength, if_neg (Nat.not_lt.2 short), if_neg (Nat.not_le.2 full), State.emit_withTxn]

variable {body : List Byte} (short : body.length ≤ 260)
include short

/-- A message that fits is stored with its last byte (R165). -/
theorem State.receiveBytes_stored (fits : 3 + body.length ≤ s.host.inboundFree) :
    (s.judgeLength kind body.length).receiveBytes body = (s.reserve body.length).storeRequest kind body := by
  rw [s.judgeLength_fits kind short fits]
  cases body with
  | nil => rfl
  | cons b rest =>
    rw [if_neg (by simp)]
    exact State.receiveBytes_whole _ _ _ _ _ (List.cons_ne_nil _ _) (by simp)

/-- A message that does not fit leaves no trace but its notice (R167). -/
theorem State.receiveBytes_overrun (full : s.host.inboundFree < 3 + body.length) :
    (s.judgeLength kind body.length).receiveBytes body =
      (s.emit (.hostOverrun kind body.length s.host.inboundFree)).withTxn (.requestWrite .hunt) := by
  rw [s.judgeLength_overrun kind short full]
  cases body with
  | nil => rfl
  | cons b rest =>
    rw [if_neg (by simp)]
    exact State.receiveBytes_discard _ _ (List.cons_ne_nil _ _)

/-- A message that fits, cut within its body (R165). -/
theorem State.receiveBytes_cut (fits : 3 + body.length ≤ s.host.inboundFree) {n : Nat} (within : n < body.length) :
    (s.judgeLength kind body.length).receiveBytes (body.take n) =
      (s.reserve body.length).withTxn (.requestWrite (.body kind body.length (body.take n))) := by
  rw [s.judgeLength_fits kind short fits, if_neg (by omega)]
  exact State.receiveBytes_part _ _ _ _ _ (by simp; omega)

end

/-! ## Whole transactions -/

section
variable {s : State} (running : s.rstN = true) (high : s.host.txn = .none)
include running high

theorem exec_requestWrite_whole (bytes : List Byte) {u : State}
    (received : (s.withTxn (.requestWrite .hunt)).receiveBytes bytes = u) :
    exec (.requestWrite true bytes true) s = .next (u.endSegment true true (zeros bytes.length)) := by
  refine (whileRunning_of_high running).trans (congrArg _ ?_)
  have opened : s.csFall 0x6E#8 = s.withTxn (.requestWrite .hunt) := State.csFall_of_high high _
  simp only [State.writeSegment, if_true, opened, received]
  rfl

/-- Where no message is in reception at the rise, what was received stays, and MISO has shifted 00h. -/
theorem exec_requestWrite_clean (bytes : List Byte) {u : State} {t : Transaction} (clean : t.clean = true)
    (idle : u.host.txn = .none) (received : (s.withTxn (.requestWrite .hunt)).receiveBytes bytes = u.withTxn t) :
    exec (.requestWrite true bytes true) s = .next (u.onMiso (zeros (bytes.length + 1))) := by
  rw [exec_requestWrite_whole running high bytes received, State.endSegment_clean (by exact clean), State.withTxn_none idle]
  rfl

end

section
variable {s : State} (running : s.rstN = true) (high : s.host.txn = .none) {kind : Byte} (named : kind ≠ 0x00#8)
include running high named

/-- A length above 260 (R168). -/
theorem exec_requestWrite_long {first second : Byte} (rest : List Byte) (long : 260 < first.toNat * 256 + second.toNat) :
    exec (.requestWrite true (kind :: first :: second :: rest) true) s =
      .next ((s.emit (.hostFraming .length kind 3)).onMiso (zeros (rest.length + 4))) := by
  refine exec_requestWrite_clean running high _ (t := .requestWrite .discardTransaction) rfl (by simp [high]) ?_
  rw [s.receiveBytes_header named, s.judgeLength_long kind long, State.receiveBytes_ignore]

/-- A message that does not fit (R167). -/
theorem exec_requestWrite_overrun {body : List Byte} (short : body.length ≤ 260) (full : s.host.inboundFree < 3 + body.length) :
    exec (.requestWrite true (hostFrame kind body) true) s =
      .next ((s.emit (.hostOverrun kind body.length s.host.inboundFree)).onMiso (zeros (body.length + 4))) := by
  rw [exec_requestWrite_clean running high (t := .requestWrite .hunt) _ rfl (by simp [high])
    ((s.receiveBytes_hostFrame named short).trans (s.receiveBytes_overrun kind short full)), hostFrame_length]

end

/-! ## A rise of CS_N in the middle of a message (R168) -/

section
variable {s : State} (high : s.host.txn = .none) (kind : Byte)
include high

/-- The notice of a transaction that has left nothing behind but what it shifted. -/
theorem State.emit_shifted (n : Notice) (free : Nat) (same : free = s.host.inboundFree) (shifted : List Byte) :
    (s.withHost { s.host with inboundFree := free, txn := .none, miso := shifted }).emit n =
      (s.emit n).onMiso shifted := by
  rw [State.emit_inbound]
  simp [State.onMiso, same, high]

theorem State.endSegment_cutHeader (first : Option Byte) (shifted : List Byte) :
    (s.withTxn (.requestWrite (.header kind first))).endSegment true true shifted =
      (s.emit (.hostFraming .csRise kind (if first.isSome then 2 else 1))).onMiso (0x00#8 :: shifted) := by
  rw [State.endSegment, if_pos rfl, State.csRise_header rfl, ← State.emit_shifted high _ _ rfl]
  rfl

theorem State.endSegment_cutBody {length : Nat} (fits : 3 + length ≤ s.host.inboundFree) (written shifted : List Byte) :
    ((s.reserve length).withTxn (.requestWrite (.body kind length written))).endSegment true true shifted =
      (s.emit (.hostFraming .csRise kind (3 + written.length))).onMiso (0x00#8 :: shifted) := by
  rw [State.endSegment, if_pos rfl, State.csRise_body rfl, ← State.emit_shifted high _ _ (Nat.sub_add_cancel fits)]
  rfl

variable {kind} (running : s.rstN = true) (named : kind ≠ 0x00#8)
include running named

/-- A message that fits, cut before its last byte, is reported with the bytes received (R168, log 12). -/
theorem exec_requestWrite_cut {body : List Byte} (short : body.length ≤ 260) (fits : 3 + body.length ≤ s.host.inboundFree)
    {n : Nat} (some' : 0 < n) (within : n < 3 + body.length) :
    exec (.requestWrite true ((hostFrame kind body).take n) true) s =
      .next ((s.emit (.hostFraming .csRise kind n)).onMiso (zeros (n + 1))) := by
  have shifted : ((hostFrame kind body).take n).length = n := by simp; omega
  match n, some' with
  | 1, _ =>
    have received : (s.withTxn (.requestWrite .hunt)).receiveBytes ((hostFrame kind body).take 1) =
        s.withTxn (.requestWrite (.header kind none)) := s.receiveBytes_kind named []
    rw [exec_requestWrite_whole running high _ received, shifted, State.endSegment_cutHeader high]
    rfl
  | 2, _ =>
    have received : (s.withTxn (.requestWrite .hunt)).receiveBytes ((hostFrame kind body).take 2) =
        s.withTxn (.requestWrite (.header kind (some (byte (body.length / 256))))) := s.receiveBytes_kind named [_]
    rw [exec_requestWrite_whole running high _ received, shifted, State.endSegment_cutHeader high]
    rfl
  | m + 3, _ =>
    have received : (s.withTxn (.requestWrite .hunt)).receiveBytes ((hostFrame kind body).take (m + 3)) =
        (s.reserve body.length).withTxn (.requestWrite (.body kind body.length (body.take m))) := by
      rw [← s.receiveBytes_cut kind short fits (n := m) (by omega)]
      refine (s.receiveBytes_header named _ _ (body.take m)).trans ?_
      rw [bytes2_read (by omega)]
    rw [exec_requestWrite_whole running high _ received, shifted, State.endSegment_cutBody high kind fits, List.length_take,
      Nat.min_eq_left (by omega), Nat.add_comm 3 m]
    rfl

end

/-- Settles O14: a length above 260, a message that does not fit, a message cut short. -/
theorem requestWriteReportsLostMessage : Obligations.RequestWriteReportsLostMessage :=
  fun _ _ running high named =>
    ⟨fun _ _ rest long => exec_requestWrite_long running high named rest long,
      fun _ short full => exec_requestWrite_overrun running high named short full,
      fun _ _ short fits some' within => exec_requestWrite_cut high running named short fits some' within⟩

/-- Settles O13: the idle bytes are skipped, the length fits, the last body byte stores the message. -/
theorem requestWriteStoresMessage : Obligations.RequestWriteStoresMessage := by
  intro s idle kind body running high named short fits
  have received := (s.receiveBytes_idle idle _).trans
    ((s.receiveBytes_hostFrame named short).trans (s.receiveBytes_stored kind short fits))
  have stored : ((s.reserve body.length).storeRequest kind body).withTxn .none =
      s.withHost
        { s.host with
          requests := s.host.requests ++ [{ kind := kind, body := body }]
          inboundFree := s.host.inboundFree - (3 + body.length) } := by
    simp [State.storeRequest, State.reserve, State.withTxn, State.withHost, high]
  have shifted : (List.replicate idle 0x00#8 ++ hostFrame kind body).length + 1 = idle + body.length + 4 := by simp; omega
  rw [exec_requestWrite_whole running high _ received, State.endSegment_clean rfl, stored, ← shifted]
  rfl

end Sys2Proof.Machine
end

section
/-! Whole reply reads: the queue shifted message by message (O15), a cut read and the report of lost notices (O16). -/

namespace Sys2Proof.Machine

/-! ## The head message leaves (R170, R171) -/

section
variable {h : HostPort} {m : HostMsg} {rest : List HostMsg} (out : h.out = m :: rest)
include out

theorem HostPort.leave_clear (clear : h.overflow = .clear) : h.leave = { h with out := rest } := by
  simp [HostPort.leave, out, clear]

theorem HostPort.leave_held (held : h.overflow = .held) :
    h.leave = { h with out := rest ++ [.overflow], overflow := .queued, overflowSince := 0 } := by
  simp [HostPort.leave, out, held]

theorem HostPort.leave_queued_other (queued : h.overflow = .queued) (other : m ≠ .overflow) :
    h.leave = { h with out := rest } := by
  simp [HostPort.leave, out, queued, other]

theorem HostPort.leave_last_report (queued : h.overflow = .queued) (report : m = .overflow) (none' : h.overflowSince = 0) :
    h.leave = { h with out := rest, overflow := .clear, overflowCount := 0 } := by
  simp [HostPort.leave, out, queued, report, none']

theorem HostPort.leave_next_report (queued : h.overflow = .queued) (report : m = .overflow) (more : h.overflowSince ≠ 0) :
    h.leave = { h with out := rest ++ [.overflow], overflowCount := h.overflowSince, overflowSince := 0 } := by
  simp [HostPort.leave, out, queued, report, more]

end

section
variable (h : HostPort)

theorem HostPort.leave_empty (empty : h.out = []) : h.leave = h := by
  simp [HostPort.leave, empty]

/-- The head leaves the inbound side, the transaction and the place held for a reply. -/
@[simp] theorem HostPort.leave_frame :
    h.leave.requests = h.requests ∧ h.leave.inboundFree = h.inboundFree ∧ h.leave.txn = h.txn
      ∧ h.leave.heldPlace = h.heldPlace ∧ h.leave.miso = h.miso := by
  simp only [HostPort.leave]
  (repeat' split) <;> simp

/-- The transaction has no part in what leaves. -/
theorem HostPort.leave_withTxn (t : Transaction) : ({ h with txn := t } : HostPort).leave = { h.leave with txn := t } := by
  simp only [HostPort.leave]
  (repeat' split) <;> rfl

end

/-! ## The bytes of a message (R172) -/

section
variable (s : State)

theorem State.shiftReplies_succ (rest : List Byte) (ended : Bool) (n : Nat) :
    (s.withTxn (.replyRead rest ended)).shiftReplies (n + 1) =
      ((((s.withTxn (.replyRead rest ended)).shiftReply rest ended).1.shiftReplies n).1,
        ((s.withTxn (.replyRead rest ended)).shiftReply rest ended).2 ::
          (((s.withTxn (.replyRead rest ended)).shiftReply rest ended).1.shiftReplies n).2) := rfl

theorem State.shiftReplies_other (other : ∀ rest ended, s.host.txn ≠ .replyRead rest ended) (n : Nat) :
    s.shiftReplies n = (s, []) := by
  cases n with
  | zero => rfl
  | succ n =>
    rw [State.shiftReplies]
    split
    next e => exact absurd e (other _ _)
    next => rfl

theorem State.shiftReplies_add (m n : Nat) :
    s.shiftReplies (m + n) =
      (((s.shiftReplies m).1.shiftReplies n).1, (s.shiftReplies m).2 ++ ((s.shiftReplies m).1.shiftReplies n).2) := by
  induction m generalizing s with
  | zero => rw [Nat.zero_add]; rfl
  | succ m ih =>
    by_cases reading : ∃ rest ended, s.host.txn = .replyRead rest ended
    · obtain ⟨rest, ended, reading⟩ := reading
      rw [Nat.add_right_comm]
      simp only [State.shiftReplies, reading, ih, List.cons_append]
    · have other : ∀ rest ended, s.host.txn ≠ .replyRead rest ended := fun rest ended e => reading ⟨rest, ended, e⟩
      simp [s.shiftReplies_other other]

/-- Bytes short of the message's end. -/
theorem State.shiftReplies_part {rest : List Byte} {n : Nat} (short : n < rest.length) :
    (s.withTxn (.replyRead rest false)).shiftReplies n = (s.withTxn (.replyRead (rest.drop n) false), rest.take n) := by
  induction n generalizing rest with
  | zero => rfl
  | succ n ih =>
    match rest with
    | b :: c :: more =>
      have byte : (s.withTxn (.replyRead (b :: c :: more) false)).shiftReply (b :: c :: more) false =
          (s.withTxn (.replyRead (c :: more) false), b) := rfl
      rw [State.shiftReplies_succ, byte, ih (rest := c :: more) (by simpa using short)]
      rfl

/-- The last byte of a message takes it out of the queue. -/
theorem State.shiftReplies_rest {rest : List Byte} (some' : rest ≠ []) :
    (s.withTxn (.replyRead rest false)).shiftReplies rest.length =
      ((s.withHost s.host.leave).withTxn (.replyRead [] false), rest) := by
  induction rest with
  | nil => exact absurd rfl some'
  | cons b rest ih =>
    rw [List.length_cons, State.shiftReplies_succ]
    cases rest with
    | nil =>
      have last : (s.withTxn (.replyRead [b] false)).shiftReply [b] false =
          ((s.withHost s.host.leave).withTxn (.replyRead [] false), b) := by
        simp only [State.shiftReply, State.withTxn, State.withHost, HostPort.leave_withTxn]
        rfl
      rw [last]
      rfl
    | cons c more =>
      have byte : (s.withTxn (.replyRead (b :: c :: more) false)).shiftReply (b :: c :: more) false =
          (s.withTxn (.replyRead (c :: more) false), b) := rfl
      rw [byte, ih (List.cons_ne_nil _ _)]

/-- The Host Port once the first byte of its head message is shifted: a NOTICE_OVERFLOW counts anew (R171). -/
def HostPort.reading (h : HostPort) (m : HostMsg) : HostPort :=
  { h with overflowSince := if m = .overflow then 0 else h.overflowSince }

/-- The state once the first byte of its head message is shifted (R172). -/
def State.begunMessage (s : State) (m : HostMsg) : State :=
  (s.withHost (s.host.reading m)).withTxn (.replyRead (m.bytes s.host.overflowCount).tail false)

/-- A message has more than one byte. -/
theorem HostMsg.bytes_eq_cons (m : HostMsg) (count : Nat) : ∃ b c more, m.bytes count = b :: c :: more := by
  cases m <;> exact ⟨_, _, _, rfl⟩

variable {s} {m : HostMsg} {queue : List HostMsg} (out : s.host.out = m :: queue)
include out

theorem State.shiftReplies_first (n : Nat) :
    (s.withTxn (.replyRead [] false)).shiftReplies (n + 1) =
      (((s.begunMessage m).shiftReplies n).1,
        byteAt (m.bytes s.host.overflowCount) 0 :: ((s.begunMessage m).shiftReplies n).2) := by
  have first : (s.withTxn (.replyRead [] false)).shiftReply [] false =
      (s.begunMessage m, byteAt (m.bytes s.host.overflowCount) 0) := by
    have head : (s.withTxn (.replyRead [] false)).host.out = m :: queue := out
    simp only [State.shiftReply, head]
    rw [← head]
    rfl
  rw [State.shiftReplies_succ, first]

/-- A read that ends before the head message's last byte (R172). -/
theorem State.shiftReplies_cut {n : Nat} (short : n < (m.bytes s.host.overflowCount).length) :
    ∃ since rest, (s.withTxn (.replyRead [] false)).shiftReplies n =
      ((s.withHost { s.host with overflowSince := since }).withTxn (.replyRead rest false),
        (m.bytes s.host.overflowCount).take n) := by
  cases n with
  | zero => exact ⟨s.host.overflowSince, [], rfl⟩
  | succ n =>
    obtain ⟨b, c, more, bytes⟩ := m.bytes_eq_cons s.host.overflowCount
    rw [bytes] at short
    rw [State.shiftReplies_first out, State.begunMessage, bytes, State.shiftReplies_part _ (by simpa using short)]
    exact ⟨_, _, rfl⟩

/-- A head message shifted whole (R172). -/
theorem State.shiftReplies_message :
    (s.withTxn (.replyRead [] false)).shiftReplies (m.bytes s.host.overflowCount).length =
      ((s.withHost (s.host.reading m).leave).withTxn (.replyRead [] false), m.bytes s.host.overflowCount) := by
  obtain ⟨b, c, more, bytes⟩ := m.bytes_eq_cons s.host.overflowCount
  have first := State.shiftReplies_first out (c :: more).length
  rw [State.begunMessage, bytes, List.tail_cons, State.shiftReplies_rest _ (List.cons_ne_nil _ _)] at first
  rw [bytes]
  exact first

end

section
variable (s : State)

/-- With nothing queued a read shifts 00h (R172). -/
theorem State.shiftReplies_ended (n : Nat) :
    (s.withTxn (.replyRead [] true)).shiftReplies n = (s.withTxn (.replyRead [] true), zeros n) := by
  induction n with
  | zero => rfl
  | succ n ih =>
    have zero : (s.withTxn (.replyRead [] true)).shiftReply [] true = (s.withTxn (.replyRead [] true), 0x00#8) := rfl
    rw [State.shiftReplies_succ, zero, ih]
    rfl

theorem State.shiftReplies_empty (empty : s.host.out = []) (n : Nat) :
    ∃ ended, (s.withTxn (.replyRead [] false)).shiftReplies n = (s.withTxn (.replyRead [] ended), zeros n) := by
  cases n with
  | zero => exact ⟨false, rfl⟩
  | succ n =>
    have zero : (s.withTxn (.replyRead [] false)).shiftReply [] false = (s.withTxn (.replyRead [] true), 0x00#8) := by
      have none' : (s.withTxn (.replyRead [] false)).host.out = [] := empty
      simp only [State.shiftReply, none']
      rfl
    exact ⟨true, by rw [State.shiftReplies_succ, zero, State.shiftReplies_ended]; rfl⟩

/-- Without an overflow the queue is shifted in join order (R171, R172). -/
theorem State.shiftReplies_queue {queue : List HostMsg} (out : s.host.out = queue) (clear : s.host.overflow = .clear)
    (count : s.host.overflowCount = 0) (only : HostMsg.overflow ∉ queue) :
    (s.withTxn (.replyRead [] false)).shiftReplies (queue.flatMap (HostMsg.bytes · 0)).length =
      ((s.withHost { s.host with out := [] }).withTxn (.replyRead [] false), queue.flatMap (HostMsg.bytes · 0)) := by
  induction queue generalizing s with
  | nil =>
    rw [show ({ s.host with out := [] } : HostPort) = s.host by rw [← out]]
    rfl
  | cons m queue ih =>
    rw [List.mem_cons, not_or] at only
    have same : s.host.reading m = s.host := by
      rw [HostPort.reading, if_neg (Ne.symm only.1)]
    have head := State.shiftReplies_message out
    rw [count, same, HostPort.leave_clear out clear] at head
    have tail := ih (s.withHost { s.host with out := queue }) rfl clear count only.2
    rw [List.flatMap_cons, List.length_append, State.shiftReplies_add, head]
    simp only [tail]
    rfl

end

/-! ## Whole transactions -/

section
variable {s : State} (running : s.rstN = true) (high : s.host.txn = .none)
include running high

theorem exec_replyRead_whole (n : Nat) {h : HostPort} (idle : h.txn = .none) {rest shifted : List Byte} {ended : Bool}
    (read : (s.withTxn (.replyRead [] false)).shiftReplies n = ((s.withHost h).withTxn (.replyRead rest ended), shifted)) :
    exec (.replyRead true n true) s = .next ((s.withHost h).onMiso (0x00#8 :: shifted)) := by
  refine (whileRunning_of_high running).trans (congrArg _ ?_)
  have opened : s.csFall 0x9B#8 = s.withTxn (.replyRead [] false) := State.csFall_of_high high _
  simp only [State.readSegment, if_true, opened, read]
  exact (State.endSegment_clean rfl _).trans (congrArg (State.onMiso · _) (State.withTxn_none idle _))

end

/-- Settles O15: the queue message by message, then 00h. -/
theorem replyReadShiftsWholeQueue : Obligations.ReplyReadShiftsWholeQueue := by
  intro s k running high ok clear
  obtain ⟨-, -, -, whenClear, -⟩ := ok
  obtain ⟨-, only, count⟩ := whenClear clear
  obtain ⟨ended, rest⟩ := (s.withHost { s.host with out := [] }).shiftReplies_empty rfl k
  have read : (s.withTxn (.replyRead [] false)).shiftReplies ((s.host.out.flatMap (HostMsg.bytes · 0)).length + k) =
      ((s.withHost { s.host with out := [] }).withTxn (.replyRead [] ended),
        s.host.out.flatMap (HostMsg.bytes · 0) ++ zeros k) := by
    rw [State.shiftReplies_add, s.shiftReplies_queue rfl clear count only, rest]
  exact exec_replyRead_whole running high _ (by exact high) read

/-- Settles O16: a cut read, a report alone in the queue, then what leaves by the overflow state. -/
theorem replyReadLosesNothing : Obligations.ReplyReadLosesNothing := by
  refine ⟨fun s m rest n running high out short => ?cut, fun s running high out queued => ?alone,
    fun h rest out queued more => HostPort.leave_next_report out queued rfl more,
    fun h m rest out held => HostPort.leave_held out held⟩
  case cut =>
    obtain ⟨since, left, read⟩ := State.shiftReplies_cut out short
    exact ⟨_, exec_replyRead_whole running high n (by exact high) read, rfl, rfl, rfl, rfl, rfl, rfl, high, rfl⟩
  case alone =>
    have read := State.shiftReplies_message out
    rw [HostPort.leave_last_report (h := s.host.reading .overflow) out queued rfl rfl] at read
    exact exec_replyRead_whole running high 5 (by exact high) read

end Sys2Proof.Machine
end

section
/-! What a claim does to the Host Port beside its own reply: it only emits notices. Said once for every operation and every request,
and from it that a request is answered once (O19). -/

namespace Sys2Proof.Machine

/-! ## Only notices -/

/-- Between two states of one claim the Host Port has only taken notices, in order. -/
def State.Notified (s t : State) : Prop := ∃ ns : List Notice, t.host = ns.foldl HostPort.claim s.host

namespace State.Notified

variable {s t u : State}

theorem of_host (same : t.host = s.host) : s.Notified t := ⟨[], same⟩

theorem refl (s : State) : s.Notified s := of_host rfl

/-- What leaves the Host Port alone adds no notice. -/
theorem frame (h : s.Notified t) (same : u.host = t.host) : s.Notified u := by
  obtain ⟨ns, e⟩ := h
  exact ⟨ns, same.trans e⟩

theorem emit (h : s.Notified t) (n : Notice) : s.Notified (t.emit n) := by
  obtain ⟨ns, e⟩ := h
  cases on : namesWide t.params.noticeMask n.maskBit with
  | true => exact ⟨ns ++ [n], by rw [State.emit_on on, State.withHost_host, e, List.foldl_append]; rfl⟩
  | false => exact ⟨ns, by rw [State.emit_off on, e]⟩

/-- A property that every claim of a notice keeps. -/
theorem induct {P : HostPort → Prop} (h : s.Notified t) (claim : ∀ h n, P h → P (HostPort.claim h n)) (start : P s.host) :
    P t.host := by
  obtain ⟨ns, e⟩ := h
  rw [e]
  exact List.foldlRecOn ns _ start fun h ok n _ => claim h n ok

variable (h : s.Notified t)
include h

theorem nextDraw : s.Notified t.nextDraw := h.frame rfl

theorem withTable (v : Table) : s.Notified (t.withTable v) := h.frame rfl

theorem withConsider (v : Bool) : s.Notified (t.withConsider v) := h.frame rfl

theorem withLink (l : LinkId) (v : Link) : s.Notified (t.withLink l v) := h.frame rfl

theorem enterDown (l : LinkId) : s.Notified (t.enterDown l) := h.frame (by simp)

theorem createRecord (slot : Nat) (r : Record) : s.Notified (t.createRecord slot r) := h.frame (by simp)

theorem emitAll (ns : List Notice) : s.Notified (t.emitAll ns) := by
  induction ns generalizing t with
  | nil => exact h
  | cons n rest ih => exact ih (h.emit n)

/-! ## The end of a sweep -/

theorem endCommitted (e : EngineId) (w : Sweep) (v : Values) : s.Notified (t.endCommitted e w v) := by
  simp only [State.endCommitted]
  split
  · exact h.frame (by simp)
  · exact (h.frame (by simp)).emit _

theorem takeFailure (slot : Nat) (r : Record) (reason : FailReason) : s.Notified (t.takeFailure slot r reason) := by
  simp only [State.takeFailure]
  (repeat' split)
  · exact (h.frame (by simp)).emit _
  · exact h.frame (by simp)
  · exact h.frame (by simp)

theorem endFailed (e : EngineId) (w : Sweep) (reason : FailReason) : s.Notified (t.endFailed e w reason) := by
  simp only [State.endFailed]
  split
  · exact h.frame (by simp)
  next r _ =>
    have cleared : s.Notified (t.clearEngine e w) := h.frame (by simp)
    exact (cleared.takeFailure w.slot r reason).emit _

theorem endLinkFailed (e : EngineId) (w : Sweep) : s.Notified (t.endLinkFailed e w) := (h.frame (by simp)).emit _

theorem endStopped (e : EngineId) (w : Sweep) (o : SweepOutcome) : s.Notified (t.endStopped e w o) := (h.frame (by simp)).emit _

theorem withdraw (slot : Nat) (r : Record) (o : SweepOutcome) : s.Notified (t.withdraw slot r o) := by
  simp only [State.withdraw]
  (repeat' split)
  · exact h.frame (by simp)
  · exact (h.endStopped _ _ o).nextDraw
  · exact h
  · exact h

theorem computeAndEnd (e : EngineId) (w : Sweep) : s.Notified (t.computeAndEnd e w) := by
  simp only [State.computeAndEnd]
  split
  · exact h.endCommitted e w _
  · exact h.endFailed e w _

/-! ## Links that change their states -/

theorem departUp (l : LinkId) (reason : LinkReason) : s.Notified (t.departUp l reason) :=
  ((h.frame (by simp)).emit _).enterDown l

theorem leaveUp (l : LinkId) (reason : LinkReason) : s.Notified (t.leaveUp l reason) := by
  simp only [State.leaveUp]
  (repeat' split)
  · exact ((h.endLinkFailed _ _).departUp l reason).nextDraw
  · exact (h.departUp l reason).nextDraw
  · exact (h.departUp l reason).nextDraw

theorem protocolFault (l : LinkId) : s.Notified (t.protocolFault l) := by
  have counted : s.Notified (t.withLink l { t.link l with faults := (t.link l).faults + 1 }) := h.frame (by simp)
  simp only [State.protocolFault]
  split
  · exact counted.leaveUp l .protocol
  · exact counted

theorem abortForDisable (l : LinkId) : s.Notified (t.abortForDisable l) := by
  simp only [State.abortForDisable]
  (repeat' split)
  · exact h
  · exact h
  · exact (h.frame (by simp)).emit _

theorem disableLink (l : LinkId) : s.Notified (t.disableLink l) := by
  have written : s.Notified (t.enableLink l false) := h.frame (by simp)
  have quiet {u : State} (hu : s.Notified u) :
      s.Notified (((u.dropLinkEntries l).quietLink l).emit (hostNotice l .off)).nextDraw :=
    ((hu.frame (by simp)).emit _).nextDraw
  simp only [State.disableLink]
  split
  · exact written
  · exact quiet written
  · exact quiet (written.abortForDisable l)

theorem reenableLink (l : LinkId) : s.Notified (t.reenableLink l) := by
  simp only [State.reenableLink]
  split
  · exact (h.frame (by simp)).emit _
  · exact h.frame (by simp)

theorem resetLink (l : LinkId) : s.Notified (t.resetLink l) := by
  simp only [State.resetLink]
  split
  · exact (h.departUp l .reset).withLink l _
  · exact h.frame (by simp)
  · exact ((h.frame (by simp)).emit _).withLink l _

theorem softResetFull : s.Notified t.softResetFull := by
  simp only [State.softResetFull]
  exact ((((h.frame (by simp)).resetLink 0).resetLink 1).resetLink 2).resetLink 3

theorem helloAck (l : LinkId) (body : List Byte) : s.Notified (t.helloAck l body) := by
  simp only [State.helloAck, State.train, State.refusePartner]
  (repeat' split)
  · exact h
  · exact h.protocolFault l
  · exact (((h.frame (by simp)).emit _).withConsider true).nextDraw
  · exact h
  · exact (h.frame (by simp)).emit _

/-! ## Answers of the front end and timers -/

theorem actOnResult (e : EngineId) (w : Sweep) (c : Condition) (first second : Word) :
    s.Notified (t.actOnResult e w c first second) := by
  simp only [State.actOnResult]
  split
  next =>
    cases c with
    | good => exact h.frame (by simp [State.zeroResult])
    | saturated => exact h.endFailed e w .saturated
    | invalid => exact h.endFailed e w .invalid
  next =>
    cases c with
    | good =>
      simp only [State.pointResult, State.goodPoint]
      (repeat' split)
      · exact h.frame (by simp)
      · exact h.computeAndEnd e _
      · exact h.endFailed e w .invalid
    | saturated =>
      simp only [State.pointResult, State.saturatedPoint]
      split
      · exact h.frame (by simp)
      · exact h.endFailed e w .saturated
    | invalid => exact h.endFailed e w .invalid

theorem calResult (l : LinkId) (n c : Byte) (first second : Word) : s.Notified (t.calResult l n c first second) := by
  simp only [State.calResult]
  split
  · exact h
  next e w _ =>
    have accepted : s.Notified (t.acceptAnswer l e w) := h.frame (by simp)
    exact accepted.actOnResult e _ _ first second

theorem calDeclined (l : LinkId) (n : Byte) : s.Notified (t.calDeclined l n) := by
  simp only [State.calDeclined, State.actOnDecline]
  (repeat' split)
  · exact h
  next e w _ _ =>
    have accepted : s.Notified (t.acceptAnswer l e w) := h.frame (by simp)
    exact accepted.endFailed e _ .declined
  · exact h.frame (by simp)

theorem checkPartner (e : EngineId) (w : Sweep) : s.Notified (t.checkPartner e w) := by
  simp only [State.checkPartner]
  split
  · exact h.frame (by simp)
  · exact h.endFailed e w .invalid

theorem requestTimeout (e : EngineId) (w : Sweep) : s.Notified (t.requestTimeout e w) := by
  simp only [State.requestTimeout]
  generalize ht : State.withSweep _ e _ = u
  have hu : s.Notified u := ht ▸ h.frame (by simp)
  (repeat' split)
  · exact hu.leaveUp _ .silent
  · exact hu.frame (by simp)
  · exact hu.endFailed e _ .timeout

/-! ## Lookups and frames -/

theorem autoCreate (tag : Fin 4) (key : Key) : s.Notified (t.autoCreate tag key).1 := by
  cases free : Table.lowestFree t.table with
  | some n =>
    rw [State.autoCreate_free free]
    exact h.createRecord n _
  | none =>
    cases found : Table.evictionCandidate t.table with
    | some c =>
      rw [State.autoCreate_evict free found]
      have evicted : s.Notified (t.evict c.1 c.2 key) := (h.frame (by simp)).emit _
      exact evicted.createRecord c.1 _
    | none => rwa [State.autoCreate_miss free found]

theorem answerOwn (tag : Fin 4) (key : Key) : s.Notified (t.answerOwn tag key).1 := by
  simp only [State.answerOwn]
  (repeat' split)
  · exact h.frame (by simp)
  · exact h.autoCreate tag key
  · exact h

theorem answerLookup (l : LinkId) (tag : Fin 4) (channel tone gain : Byte) :
    s.Notified (t.answerLookup l tag channel tone gain).1 := by
  simp only [State.answerLookup, State.answerKey, State.answerAliased]
  (repeat' split)
  · exact h.frame (by simp)
  · exact h
  · exact h.frame (by simp)
  · exact h.frame (by simp)
  · exact h.answerOwn tag _
  · exact h.answerOwn tag _
  · exact h
  · exact h

theorem lookup (l : LinkId) (tag channel tone gain : Byte) : s.Notified (t.lookup l tag channel tone gain) := by
  simp only [State.lookup]
  (repeat' split)
  · exact h.protocolFault l
  · exact h.protocolFault l
  next tag _ _ =>
    have tagged : s.Notified (t.withLink l { t.link l with tags := (t.link l).tags ++ [tag] }) := h.frame (by simp)
    exact (tagged.answerLookup l tag channel tone gain).withLink l _

theorem takeUp (l : LinkId) (kind : Byte) (body : List Byte) : s.Notified (t.takeUp l kind body) := by
  simp only [State.takeUp]
  (repeat' split)
  · exact h.lookup l _ _ _ _
  · exact h.calResult l _ _ _ _
  · exact h.calDeclined l _
  · exact h.frame (by simp)
  · exact h.leaveUp l .partner
  · exact h.protocolFault l

theorem takeFrame (l : LinkId) (kind : Byte) (body : List Byte) : s.Notified (t.takeFrame l kind body) := by
  simp only [State.takeFrame]
  (repeat' split)
  · exact h
  · exact h.helloAck l body
  · exact h
  · exact h.takeUp l kind body

omit h in
theorem arrive {act : State → State} (l : LinkId) (kind : Byte) (body : List Byte)
    (keeps : ∀ {u : State}, s.Notified u → s.Notified (act u)) (h : s.Notified t) : s.Notified (t.arrive l kind body act) := by
  simp only [State.arrive]
  split
  · exact h
  · exact keeps (h.frame (by simp))

omit h in
theorem arriveUp {act : State → State} (l : LinkId) (kind : Byte) (body : List Byte)
    (keeps : ∀ {u : State}, s.Notified u → s.Notified (act u)) (h : s.Notified t) :
    s.Notified (t.arrive l kind body fun u => u.whenUp l (act u)) :=
  arrive l kind body (fun h => Kept.whenUp l (keeps h) h) h

theorem epochExpiry : s.Notified t.startEpoch.ageAll.offerWaiting := by
  have begun : s.Notified (t.startEpoch.withEpochCount (nextEpochCount t.startEpoch.epochCount)) := h.frame (by simp)
  have aged : s.Notified t.startEpoch.ageAll := (begun.emitAll _).withTable _
  exact aged.frame (by simp)

end State.Notified

/-! ## What a request is answered (R178) -/

/-- A request is refused and nothing has changed, or it is answered OK or QUEUE_FULL and the Host Port has only taken notices. -/
inductive State.Answers (s : State) : Answer → Prop
  | refuse (status : Status) : s.Answers (s.refuse status)
  | act {a : Answer} : s.Notified a.state → a.status = .ok ∨ a.status = .queueFull → s.Answers a

namespace State.Answers

variable {s : State}

theorem accept {t : State} (h : s.Notified t) (payload : List Byte) : s.Answers (t.accept payload) := .act h (.inl rfl)

theorem read (payload : List Byte) : s.Answers (s.accept payload) := accept (.refl s) payload

theorem notified {a : Answer} (h : s.Answers a) : s.Notified a.state := by
  cases h with
  | refuse => exact .refl s
  | act h _ => exact h

theorem onRecord (key : Key) {act : Nat → Record → Answer} (acts : ∀ slot r, s.Answers (act slot r)) :
    s.Answers (s.onRecord key act) := by
  simp only [State.onRecord]
  split
  · exact .refuse _
  · exact acts _ _

theorem keyRequest (body : List Byte) {act : Nat → Record → Answer} (acts : ∀ slot r, s.Answers (act slot r)) :
    s.Answers (s.keyRequest body act) := by
  simp only [State.keyRequest]
  (repeat' split)
  · exact .refuse _
  · exact .refuse _
  · exact onRecord _ acts

theorem indexRequest (body : List Byte) {act : Fin 8 → Answer} (acts : ∀ i, s.Answers (act i)) :
    s.Answers (s.indexRequest body act) := by
  simp only [State.indexRequest]
  (repeat' split)
  · exact .refuse _
  · exact .refuse _
  · exact acts _

variable (body : List Byte)

/-! ### Record requests -/

theorem createClaim (key : Key) (policy : Policy) (pin : Bool) (values : Option Values) :
    s.Answers (s.createClaim key policy pin values) := by
  simp only [State.createClaim]
  (repeat' split)
  · exact .refuse _
  · exact .refuse _
  · exact .accept (State.Notified.createRecord (.refl s) _ _) _

theorem create : s.Answers (actCreate body s) := by
  simp only [actCreate]
  (repeat' split)
  · exact .refuse _
  · exact .refuse _
  · exact .refuse _
  · exact createClaim _ _ _ _
  · exact createClaim _ _ _ _
  · exact .refuse _

theorem load : s.Answers (actLoad body s) := by
  simp only [actLoad]
  (repeat' split)
  · exact .refuse _
  · exact .refuse _
  · exact .refuse _
  · exact onRecord _ fun slot r => .accept ((State.Notified.withdraw (.refl s) slot r .superseded).frame (by simp)) _

theorem readRecord : s.Answers (actRead body s) := keyRequest body fun _ _ => .read _

theorem retire : s.Answers (actRetire body s) :=
  keyRequest body fun slot r => .accept ((State.Notified.withdraw (.refl s) slot r .aborted).frame (by simp)) _

theorem setPolicyClaim (slot : Nat) (r : Record) (policy : Policy) (pin : Bool) :
    s.Notified (s.setPolicyClaim slot r policy pin) := by
  simp only [State.setPolicyClaim, State.makeFixed]
  split
  · exact (State.Notified.withdraw (.refl s) slot r .superseded).frame (by simp)
  · exact .of_host (by simp)
  · exact .of_host (by simp)

theorem setPolicy : s.Answers (actSetPolicy body s) := by
  simp only [actSetPolicy]
  (repeat' split)
  · exact .refuse _
  · exact .refuse _
  · exact onRecord _ fun slot r => .accept (setPolicyClaim slot r _ _) _
  · exact .refuse _

theorem refresh : s.Answers (actRefresh body s) := by
  refine keyRequest body fun slot r => ?_
  have quiet : (s.refreshClaim slot r).1.host = s.host := by simp
  split
  next => exact .refuse _
  next =>
    split
    next => exact .refuse _
    next =>
      split
      next s' a claimed =>
        rw [claimed] at quiet
        refine .act (.of_host quiet) ?_
        split
        · exact .inr rfl
        · exact .inl rfl
      next => exact .refuse _

/-- A marking pass emits no notice. -/
theorem markPass {mark : State → Nat → Record → State × Option RefreshAction}
    (shape : ∀ s slot r, ∃ q t c, (mark s slot r).1 = ((s.withQueue q).withTable t).withConsider c) (slots : List Nat)
    (t : State) :
    (t.markPass mark slots).1.host = t.host := by
  obtain ⟨q, v, c, passed⟩ := State.markPass_frame mark shape slots t
  rw [passed]
  rfl

theorem refreshScope : s.Answers (actRefreshScope body s) := by
  simp only [actRefreshScope]
  (repeat' split)
  · exact .refuse _
  · exact .refuse _
  · exact .refuse _
  · exact .accept (.of_host (markPass (State.mark_shape .host) _ s)) _

theorem scan : s.Answers (actScan body s) := by
  simp only [actScan]
  (repeat' split)
  · exact .refuse _
  · exact .refuse _
  · exact .read _

/-! ### Aliases and the store -/

theorem aliasSet : s.Answers (actAliasSet body s) := by
  simp only [actAliasSet]
  (repeat' split)
  · exact .refuse _
  · exact .refuse _
  · exact .refuse _
  · exact .accept (.of_host (by simp)) _
  · exact .refuse _

theorem aliasClear : s.Answers (actAliasClear body s) := indexRequest body fun _ => .accept (.of_host (by simp)) _

theorem aliasRead : s.Answers (actAliasRead body s) := indexRequest body fun _ => .read _

theorem tonePlanSet : s.Answers (actTonePlanSet body s) := by
  simp only [actTonePlanSet]
  (repeat' split)
  · exact .refuse _
  · exact .refuse _
  · exact .accept (.of_host (by simp [markPass State.markAlert_shape])) _
  · exact .accept (.of_host (by simp)) _
  · exact .refuse _

theorem tonePlanRead : s.Answers (actTonePlanRead body s) := by
  simp only [actTonePlanRead]
  (repeat' split)
  · exact .refuse _
  · exact .refuse _
  · exact .read _

theorem levelSet : s.Answers (actLevelSet body s) := by
  simp only [actLevelSet]
  (repeat' split)
  · exact .refuse _
  · exact .refuse _
  · exact .refuse _
  · exact .accept (.of_host (by simp)) _

theorem levelRead : s.Answers (actLevelRead body s) := by
  simp only [actLevelRead]
  (repeat' split)
  · exact .refuse _
  · exact .refuse _
  · exact .read _

theorem configSet : s.Answers (actConfigSet body s) := by
  simp only [actConfigSet]
  (repeat' split)
  · exact .refuse _
  · exact .refuse _
  · exact .accept (.of_host (by simp)) _
  · exact .refuse _

theorem configGet : s.Answers (actConfigGet body s) := by
  simp only [actConfigGet]
  (repeat' split)
  · exact .refuse _
  · exact .refuse _
  · exact .read _

/-! ### Links, status and resets -/

theorem linkControl : s.Answers (actLinkControl body s) := by
  simp only [actLinkControl]
  (repeat' split)
  · exact .refuse _
  · exact .refuse _
  · exact .refuse _
  · exact .accept (State.Notified.reenableLink (.refl s) _) _
  · exact .accept (State.Notified.disableLink (.refl s) _) _

theorem status : s.Answers (actStatus body s) := by
  simp only [actStatus]
  split
  · exact .refuse _
  · exact .read _

theorem softReset : s.Answers (actSoftReset body s) := by
  simp only [actSoftReset]
  (repeat' split)
  · exact .refuse _
  · exact .refuse _
  · exact .accept (State.Notified.softResetFull (.refl s)).nextDraw _
  · exact .accept (.of_host (by simp)) _

theorem byKind (kind : Byte) : s.Answers (actByKind kind body s) := by
  simp only [actByKind]
  split
  next act found =>
    simp only [actOf?] at found
    split at found <;> cases found
    · exact create body
    · exact load body
    · exact readRecord body
    · exact retire body
    · exact setPolicy body
    · exact refresh body
    · exact refreshScope body
    · exact scan body
    · exact aliasSet body
    · exact aliasClear body
    · exact aliasRead body
    · exact tonePlanSet body
    · exact tonePlanRead body
    · exact levelSet body
    · exact levelRead body
    · exact configSet body
    · exact configGet body
    · exact linkControl body
    · exact status body
    · exact softReset body
  next => exact .refuse _

end State.Answers

/-! ## The reply (R166, R177) -/

theorem HostPort.claim_replies (h : HostPort) (n : Notice) :
    (h.claim n).out.filter (fun m => !m.isNotice) = h.out.filter (fun m => !m.isNotice) := by
  rcases h.claim_rows with ⟨clear, room, few⟩ | ⟨clear, room, most⟩ | ⟨clear, full⟩ | held | queued
  · simp [HostPort.claim_joins clear room few, HostMsg.isNotice]
  · simp [HostPort.claim_overflows clear room most, HostMsg.isNotice]
  · simp [HostPort.claim_withheld clear full]
  · simp [HostPort.claim_of_held held]
  · simp [HostPort.claim_of_queued queued]

/-- What notices leave of the Host Port: the replies in their order, the inbound side and the transaction. -/
theorem State.Notified.host_rest {s t : State} (h : s.Notified t) :
    t.host.out.filter (fun m => !m.isNotice) = s.host.out.filter (fun m => !m.isNotice)
      ∧ t.host.requests = s.host.requests ∧ t.host.inboundFree = s.host.inboundFree ∧ t.host.txn = s.host.txn :=
  h.induct (P := fun k =>
      k.out.filter (fun m => !m.isNotice) = s.host.out.filter (fun m => !m.isNotice)
        ∧ k.requests = s.host.requests ∧ k.inboundFree = s.host.inboundFree ∧ k.txn = s.host.txn)
    (fun k n ok => by simpa [HostPort.claim_replies] using ok) ⟨rfl, rfl, rfl, rfl⟩

/-- Settles O19: the act of the request's kind emits at most notices or refuses, and its reply joins behind them. -/
theorem everyRequestAnsweredOnce : Obligations.EveryRequestAnsweredOnce := by
  intro c kind body s row
  rw [exec_request row]
  refine ⟨fun takes => ?taken, fun full => ?waits⟩
  case waits =>
    rw [State.takeRequest_of_full full]
    cases running : s.rstN with
    | true => exact whileRunning_of_high running
    | false => exact whileRunning_of_low running
  case taken =>
    have answers : s.beginRequest.Answers (actByKind kind body s.beginRequest) := .byKind body kind
    rw [State.whileRunning_takes takes]
    generalize actByKind kind body s.beginRequest = a at answers
    obtain ⟨replies, requests, free, txn⟩ := answers.notified.host_rest
    rw [s.beginRequest_eq] at replies requests free txn
    refine ⟨_, a.reply kind body, rfl, rfl, ?id, ?last, ?order, requests, free, rfl, txn, fun notOk notFull => ?refused⟩
    case id => cases body <;> rfl
    case last => simp [State.joinReply]
    case order => exact (List.filter_append ..).trans (congrArg (· ++ [HostMsg.reply (a.reply kind body)]) replies)
    case refused =>
      cases answers with
      | refuse status => exact ⟨rfl, s.joinReply_begin _⟩
      | act _ done =>
        rcases done with ok | full
        · exact absurd ok notOk
        · exact absurd full notFull

end Sys2Proof.Machine
end

section
/-! The bounds of the outbound queue and the account of the inbound buffer (O8): every command makes of the Host Port a run of a few
events, a request taken and answered, or the port of power-on reset; each keeps both. -/

namespace Sys2Proof.Machine

/-! ## The events of the Host Port -/

/-- A message that fits is in reception (R165). -/
def Transaction.inBody : Transaction → Bool
  | .requestWrite (.body _ _ _) => true
  | _ => false

/-- One event of the Host Port, the taking of a request apart (chapter 8). -/
inductive HostPort.Event (h : HostPort) : HostPort → Prop
  | notice (n : Notice) : Event h (h.claim n)
  | leave : Event h h.leave
  | firstByte (m : HostMsg) : Event h (h.reading m)
  | shift (bytes : List Byte) : Event h { h with miso := bytes }
  | turn {t : Transaction} : h.txn.inBody = false → t.inBody = false → Event h { h with txn := t }
  | accept {kind : Byte} {length : Nat} : h.txn.inBody = false → 0 < length → length ≤ 260 →
    3 + length ≤ h.inboundFree →
    Event h { h with inboundFree := h.inboundFree - (3 + length), txn := .requestWrite (.body kind length []) }
  | acceptEmpty {kind : Byte} : h.txn.inBody = false → 3 ≤ h.inboundFree →
    Event h
      { h with
        requests := h.requests ++ [{ kind := kind, body := [] }], inboundFree := h.inboundFree - 3, txn := .requestWrite .hunt }
  | write {kind : Byte} {length : Nat} {written : List Byte} (b : Byte) : h.txn = .requestWrite (.body kind length written) →
    written.length + 1 < length → Event h { h with txn := .requestWrite (.body kind length (written ++ [b])) }
  | store {kind : Byte} {length : Nat} {written : List Byte} (b : Byte) : h.txn = .requestWrite (.body kind length written) →
    length ≤ written.length + 1 →
    Event h { h with requests := h.requests ++ [{ kind := kind, body := written ++ [b] }], txn := .requestWrite .hunt }
  | cut {kind : Byte} {length : Nat} {written : List Byte} : h.txn = .requestWrite (.body kind length written) →
    Event h { h with txn := .none, inboundFree := h.inboundFree + (3 + length) }

/-- Between two states the Host Port has only run through its events. -/
def State.PortRuns (s t : State) : Prop := Relation.ReflTransGen HostPort.Event s.host t.host

namespace State.PortRuns

variable {s t u : State}

theorem refl (s : State) : s.PortRuns s := Relation.ReflTransGen.refl

theorem of_event (e : s.host.Event t.host) : s.PortRuns t := Relation.ReflTransGen.single e

/-- A property of the Host Port that every event keeps. -/
theorem induct {P : HostPort → Prop} (h : s.PortRuns t) (event : ∀ {h k}, P h → HostPort.Event h k → P k) (start : P s.host) :
    P t.host := by
  unfold State.PortRuns at h
  generalize t.host = k at h ⊢
  induction h with
  | refl => exact start
  | tail _ e ih => exact event ih e

theorem trans (h : s.PortRuns t) (h' : t.PortRuns u) : s.PortRuns u := Relation.ReflTransGen.trans h h'

theorem emit (s : State) (n : Notice) : s.PortRuns (s.emit n) := by
  cases on : namesWide s.params.noticeMask n.maskBit with
  | true => exact of_event (by rw [State.emit_on on]; exact .notice n)
  | false => rw [State.emit_off on]; exact refl s

theorem turn {t : Transaction} (idle : s.host.txn.inBody = false) (idle' : t.inBody = false) : s.PortRuns (s.withTxn t) :=
  of_event (.turn idle idle')

theorem of_notified (h : s.Notified t) : s.PortRuns t :=
  h.induct (P := Relation.ReflTransGen HostPort.Event s.host) (fun _ n runs => runs.tail (.notice n)) Relation.ReflTransGen.refl

/-! ## Receiving -/

theorem judgeLength (idle : s.host.txn.inBody = false) (kind : Byte) (length : Nat) : s.PortRuns (s.judgeLength kind length) := by
  rcases Nat.lt_or_ge 260 length with long | short
  · rw [s.judgeLength_long kind long]
    exact (emit s _).trans (turn (by simpa using idle) rfl)
  · rcases Nat.lt_or_ge s.host.inboundFree (3 + length) with full | fits
    · rw [s.judgeLength_overrun kind short full]
      refine (emit s _).trans (turn (by simpa using idle) ?_)
      split <;> rfl
    · rw [s.judgeLength_fits kind short fits]
      split
      next empty =>
        subst empty
        exact of_event (.acceptEmpty idle fits)
      next some' => exact of_event (.accept idle (Nat.pos_of_ne_zero some') short fits)

theorem receiveByte {r : Receive} (writing : s.host.txn = .requestWrite r) (b : Byte) : s.PortRuns (s.receiveByte r b) := by
  cases r with
  | hunt =>
    rw [State.receiveByte]
    split
    · exact refl s
    · exact turn (by rw [writing]; rfl) rfl
  | header kind first =>
    have idle : s.host.txn.inBody = false := by rw [writing]; rfl
    cases first with
    | none => exact turn idle rfl
    | some high => exact judgeLength idle kind _
  | body kind length written =>
    rw [State.receiveByte]
    split
    next more => exact of_event (.write b writing more)
    next last => exact of_event (.store b writing (Nat.not_lt.1 last))
  | discardMessage left =>
    refine turn (by rw [writing]; rfl) ?_
    split <;> rfl
  | discardTransaction => exact refl s

theorem receiveBytes (s : State) (bytes : List Byte) : s.PortRuns (s.receiveBytes bytes) := by
  induction bytes generalizing s with
  | nil => exact refl s
  | cons b rest ih =>
    rw [State.receiveBytes]
    split
    next r writing => exact (receiveByte writing b).trans (ih _)
    next => exact refl s

/-! ## Reading -/

theorem shiftReply {rest : List Byte} {ended : Bool} (reading : s.host.txn = .replyRead rest ended) :
    s.PortRuns (s.shiftReply rest ended).1 := by
  have idle : s.host.txn.inBody = false := by rw [reading]; rfl
  simp only [State.shiftReply]
  split
  next => exact refl s
  next =>
    split
    next =>
      have left : s.PortRuns (s.withHost s.host.leave) := of_event .leave
      exact left.trans (turn (by simpa using idle) rfl)
    next => exact turn idle rfl
    next =>
      split
      next => exact turn idle rfl
      next m _ _ =>
        have first : s.PortRuns (s.withHost (s.host.reading m)) := of_event (.firstByte m)
        exact first.trans (turn idle rfl)

theorem shiftReplies (s : State) (n : Nat) : s.PortRuns (s.shiftReplies n).1 := by
  induction n generalizing s with
  | zero => exact refl s
  | succ n ih =>
    rw [State.shiftReplies]
    split
    next reading => exact (shiftReply reading).trans (ih _)
    next => exact refl s

/-! ## CS_N and the segments -/

theorem csRise (s : State) : s.PortRuns s.csRise := by
  cases txn : s.host.txn with
  | requestWrite r =>
    have idle (quiet : Transaction.inBody (.requestWrite r) = false) : s.PortRuns (s.withTxn .none) :=
      turn (by rw [txn]; exact quiet) rfl
    cases r with
    | header kind first =>
      rw [State.csRise_header txn]
      exact (idle rfl).trans (emit _ _)
    | body kind length written =>
      rw [State.csRise_body txn]
      have freed : s.PortRuns (s.withHost { s.host with txn := .none, inboundFree := s.host.inboundFree + (3 + length) }) :=
        of_event (.cut txn)
      exact freed.trans (emit _ _)
    | hunt | discardMessage | discardTransaction =>
      rw [State.csRise_clean (by rw [txn]; rfl)]
      exact idle rfl
  | none | waitRise | replyRead | portStatus | ignored =>
    rw [State.csRise_clean (by rw [txn]; rfl)]
    exact turn (by rw [txn]; rfl) rfl

end State.PortRuns

@[simp] theorem State.csRise_txn (s : State) : s.csRise.host.txn = .none := by
  simp only [State.csRise]
  split <;> simp [State.withTxn]

namespace State.PortRuns

variable {s t : State}

theorem openWith (high : s.host.txn = .none) (cmd : Byte) : s.PortRuns (s.openWith cmd) := by
  have idle : s.host.txn.inBody = false := by rw [high]; rfl
  simp only [State.openWith]
  (repeat' split)
  · exact turn idle rfl
  · exact turn idle rfl
  · exact turn idle rfl
  · exact (turn idle rfl).trans (emit _ _)

theorem csFall (s : State) (cmd : Byte) : s.PortRuns (s.csFall cmd) := by
  rw [State.csFall]
  split
  next high => exact openWith high cmd
  next => exact (csRise s).trans (openWith s.csRise_txn cmd)

theorem endSegment (s : State) (fall rise : Bool) (shifted : List Byte) : s.PortRuns (s.endSegment fall rise shifted) := by
  have left (bytes : List Byte) : s.PortRuns (s.withHost { s.host with miso := bytes }) := of_event (.shift bytes)
  simp only [State.endSegment]
  split
  · exact (left _).trans (csRise _)
  · exact left _

/-- The state in which a segment's bytes are taken. -/
theorem opened (s : State) (fall : Bool) (cmd : Byte) : s.PortRuns (if fall then s.csFall cmd else s) := by
  split
  · exact csFall s cmd
  · exact refl s

theorem writeSegment (s : State) (fall : Bool) (bytes : List Byte) (rise : Bool) : s.PortRuns (s.writeSegment fall bytes rise) := by
  refine (opened s fall 0x6E#8).trans ?_
  simp only [State.writeSegment]
  generalize (if fall = true then s.csFall 0x6E#8 else s) = u
  split
  · exact (receiveBytes _ bytes).trans (endSegment _ ..)
  · exact endSegment _ ..
  · exact refl _

theorem readSegment (s : State) (fall : Bool) (count : Nat) (rise : Bool) : s.PortRuns (s.readSegment fall count rise) := by
  refine (opened s fall 0x9B#8).trans ?_
  simp only [State.readSegment]
  generalize (if fall = true then s.csFall 0x9B#8 else s) = u
  split
  · exact (shiftReplies _ count).trans (endSegment _ ..)
  · exact endSegment _ ..
  · exact refl _

theorem statusSegment (s : State) (fall : Bool) (count : Nat) (rise : Bool) : s.PortRuns (s.statusSegment fall count rise) := by
  refine (opened s fall 0x3C#8).trans ?_
  simp only [State.statusSegment]
  generalize (if fall = true then s.csFall 0x3C#8 else s) = u
  split
  next reading => exact (turn (by rw [reading]; rfl) rfl).trans (endSegment _ ..)
  · exact endSegment _ ..
  · exact refl _

theorem ignoredSegment (s : State) (cmd : Byte) (fall : Bool) (count : Nat) (rise : Bool) :
    s.PortRuns (s.ignoredSegment cmd fall count rise) := by
  refine (opened s fall cmd).trans ?_
  simp only [State.ignoredSegment]
  generalize (if fall = true then s.csFall cmd else s) = u
  split
  · exact endSegment _ ..
  · exact endSegment _ ..
  · exact refl _

end State.PortRuns

/-! ## What a command makes of the Host Port -/

/-- Every command's effect on the Host Port. -/
inductive State.PortStep (s t : State) : Prop
  | runs : s.PortRuns t → PortStep s t
  | answer {a : State} (r : Reply) : s.host.out.length < 48 → s.beginRequest.Notified a → t = a.joinReply r → PortStep s t
  | restart (txn : Transaction) : txn.inBody = false → t.host = { HostPort.reset with txn := txn } → PortStep s t

namespace State.PortStep

variable {s t : State}

theorem idle (s : State) : s.PortStep s := .runs (.refl s)

theorem notified (h : s.Notified t) : s.PortStep t := .runs (.of_notified h)

/-- A command of the part acts or, while RST_N is low, does nothing. -/
theorem running {u : State} (h : s.PortStep u) (e : whileRunning s u = .next t) : s.PortStep t :=
  Kept.running (P := s.PortStep) (idle s) h e

theorem takeRequest (s : State) (kind : Byte) (body : List Byte) : s.PortStep (s.takeRequest kind body (actByKind kind)) := by
  simp only [State.takeRequest]
  split
  next can =>
    simp only [State.canTake, Bool.and_eq_true, decide_eq_true_iff] at can
    exact .answer _ can.1 (State.Answers.byKind body kind).notified rfl
  next => exact idle s

theorem exec {c : Instr} (e : exec c s = .next t) : s.PortStep t := by
  cases c with
  | powerOnReset csLow =>
    cases e
    refine .restart _ ?_ rfl
    cases csLow <;> rfl
  | rstNAsserted =>
    cases e
    exact .notified (.of_host rfl)
  | requestWrite fall bytes rise => exact running (.runs (.writeSegment s ..)) e
  | replyRead fall count rise => exact running (.runs (.readSegment s ..)) e
  | portStatus fall count rise => exact running (.runs (.statusSegment s ..)) e
  | commandByteUnknown cmd fall count rise => exact running (.runs (.ignoredSegment s ..)) e
  | unknownKind | create | load | read | retire | setPolicyFixed | setPolicyAuto | refresh | refreshScope | scan | aliasSet
  | aliasClear | aliasRead | tonePlanSet | tonePlanRead | levelSet | levelRead | configSet | configGet | linkControlDisable
  | linkControlEnable | status | softResetTable | softResetFull | setPolicyRefused | linkControlRefused | softResetRefused =>
    rw [exec_request rfl] at e
    exact running (takeRequest s _ _) e
  | epochExpiry => exact running (.notified (State.Notified.refl s).epochExpiry) e
  | retryCountdownExpiry | dispatch | outboundFrameSent => exact running (.notified (.of_host (by simp))) e
  | waitTimerExpiry | helloTimerExpiry | frameCheckFailure | incompleteFrame =>
    refine running (.notified (.of_host ?_)) e
    (repeat' split) <;> simp
  | partnerCheck engine =>
    refine running (.notified ?_) e
    (repeat' split)
    · exact (State.Notified.refl s).checkPartner engine _
    · exact .refl s
    · exact .refl s
  | requestTimerExpiry engine =>
    refine running (.notified ?_) e
    (repeat' split)
    · exact (State.Notified.refl s).requestTimeout engine _
    · exact .refl s
    · exact .refl s
  | helloAck link body => exact running (.notified (.arrive link _ _ (fun h => h.helloAck link body) (.refl s))) e
  | lookup link tag channel tone gain =>
    exact running (.notified (.arriveUp link _ _ (fun h => h.lookup link tag channel tone gain) (.refl s))) e
  | calResult link number condition first second =>
    exact running (.notified (.arriveUp link _ _ (fun h => h.calResult link number condition first second) (.refl s))) e
  | calDeclined link number => exact running (.notified (.arriveUp link _ _ (fun h => h.calDeclined link number) (.refl s))) e
  | driftAlert link channels tones => exact running (.notified (.arriveUp link _ _ (fun h => h.frame (by simp)) (.refl s))) e
  | goodbye link => exact running (.notified (.arriveUp link _ _ (fun h => h.leaveUp link .partner) (.refl s))) e
  | unknownFrameKind link kind body => exact running (.notified (.arrive link _ _ (fun h => h.takeFrame link kind body) (.refl s))) e

theorem step (e : step s = .next t) : s.PortStep t := by
  simp only [Machine.step] at e
  split at e
  · cases e
    exact idle s
  next rest _ =>
    -- The queue's rest runs on the same Host Port.
    cases exec e with
    | runs h => exact .runs h
    | answer r room h e =>
      obtain ⟨ns, h⟩ := h
      exact .answer r room ⟨ns, by rw [h, State.beginRequest_eq, s.beginRequest_eq]⟩ e
    | restart txn idle h => exact .restart txn idle h

end State.PortStep

end Sys2Proof.Machine
end

section
/-! Every event of the Host Port, and a request from its taking to its reply, keeps the bounds of the outbound queue and the account
of the inbound buffer (O8). -/

namespace Sys2Proof.Machine

/-! ## The outbound queue stays bounded (R169, R170) -/

/-- The bounds of the outbound queue, with the place held for a reply counted as one of its messages. -/
structure HostPort.QueueOk (h : HostPort) : Prop where
  places : h.out.length + (if h.heldPlace then 1 else 0) ≤ 48
  notices : h.notices ≤ 32
  clear : h.overflow = .clear → h.notices ≤ 31 ∧ HostMsg.overflow ∉ h.out ∧ h.overflowCount = 0
  held : h.overflow = .held →
    h.out.length + (if h.heldPlace then 1 else 0) = 48 ∧ h.notices ≤ 31 ∧ HostMsg.overflow ∉ h.out ∧ 1 ≤ h.overflowCount
  queued : h.overflow = .queued → h.out.count HostMsg.overflow = 1 ∧ 1 ≤ h.overflowCount
  count : h.overflowCount ≤ 65535
  since : h.overflowSince ≤ 65535

theorem HostPort.outboundOk_iff {h : HostPort} : h.OutboundOk ↔ h.heldPlace = false ∧ h.QueueOk := by
  constructor
  · rintro ⟨free, places, notices, clear, held, queued, count, since⟩
    exact ⟨free, by simpa [free] using places, notices, clear, by simpa [free] using held, queued, count, since⟩
  · rintro ⟨free, places, notices, clear, held, queued, count, since⟩
    exact ⟨free, by simpa [free] using places, notices, clear, by simpa [free] using held, queued, count, since⟩

theorem countUp_pos (n : Nat) : 1 ≤ countUp n := by
  simp only [countUp, Config.maxOverflow]
  split <;> omega

theorem countUp_le {n : Nat} (h : n ≤ 65535) : countUp n ≤ 65535 := by
  rw [countUp_eq_min h]
  exact Nat.min_le_right ..

/-- A message that joins is one notice at most. -/
theorem countP_isNotice_join (out : List HostMsg) (m : HostMsg) :
    (out ++ [m]).countP HostMsg.isNotice ≤ out.countP HostMsg.isNotice + 1 := by
  rw [List.countP_append]
  exact Nat.add_le_add_left List.countP_le_length _

namespace HostPort.QueueOk

variable {h k : HostPort} (ok : h.QueueOk)
include ok

/-- The inbound side and the transaction have no part in the bounds. -/
theorem inbound (requests : List Request) (free : Nat) (txn : Transaction) (miso : List Byte) :
    ({ h with requests := requests, inboundFree := free, txn := txn, miso := miso } : HostPort).QueueOk :=
  ⟨ok.places, ok.notices, ok.clear, ok.held, ok.queued, ok.count, ok.since⟩

theorem claim (n : Notice) : (h.claim n).QueueOk := by
  rcases h.claim_rows with ⟨clear, room, few⟩ | ⟨clear, room, most⟩ | ⟨clear, full⟩ | held | queued
  · rw [HostPort.claim_joins clear room few]
    obtain ⟨-, absent, none'⟩ := ok.clear clear
    have room := HostPort.placeFree_iff.1 room
    have joined : (h.out ++ [HostMsg.notice n]).countP HostMsg.isNotice ≤ 31 := (countP_isNotice_join ..).trans few
    exact
      { places := by simp; omega
        notices := joined.trans (by omega)
        clear := fun _ => ⟨joined, by simpa using absent, none'⟩
        held := fun held => nomatch clear.symm.trans held
        queued := fun queued => nomatch clear.symm.trans queued
        count := ok.count
        since := ok.since }
  · rw [HostPort.claim_overflows clear room most]
    obtain ⟨few, absent, -⟩ := ok.clear clear
    have room := HostPort.placeFree_iff.1 room
    have joined : (h.out ++ [HostMsg.overflow]).countP HostMsg.isNotice ≤ 32 :=
      (countP_isNotice_join ..).trans (Nat.succ_le_succ few)
    exact
      { places := by simp; omega
        notices := joined
        clear := nofun
        held := nofun
        queued := fun _ => ⟨by simp [List.count_eq_zero_of_not_mem absent], le_rfl⟩
        count := by simp
        since := by simp }
  · rw [HostPort.claim_withheld clear full]
    obtain ⟨few, absent, -⟩ := ok.clear clear
    have full := HostPort.placeFree_iff.not.1 (Bool.eq_false_iff.1 full)
    have places := ok.places
    exact
      { places := places
        notices := ok.notices
        clear := nofun
        held := fun _ => ⟨by simp only []; omega, few, absent, le_rfl⟩
        queued := nofun
        count := by simp
        since := ok.since }
  · rw [HostPort.claim_of_held held]
    obtain ⟨full, few, absent, -⟩ := ok.held held
    exact
      { places := ok.places
        notices := ok.notices
        clear := fun clear => nomatch held.symm.trans clear
        held := fun _ => ⟨full, few, absent, countUp_pos _⟩
        queued := fun queued => nomatch held.symm.trans queued
        count := countUp_le ok.count
        since := ok.since }
  · rw [HostPort.claim_of_queued queued]
    exact
      { places := ok.places
        notices := ok.notices
        clear := fun clear => nomatch queued.symm.trans clear
        held := fun held => nomatch queued.symm.trans held
        queued := fun _ => ⟨(ok.queued queued).1, countUp_pos _⟩
        count := countUp_le ok.count
        since := countUp_le ok.since }

/-- Without its head the queue holds one message less, and at most as many notices. -/
theorem tail {m : HostMsg} {rest : List HostMsg} (out : h.out = m :: rest) :
    rest.length + 1 + (if h.heldPlace then 1 else 0) ≤ 48
      ∧ rest.countP HostMsg.isNotice + (if m.isNotice then 1 else 0) = h.notices := by
  have places := ok.places
  rw [out, List.length_cons] at places
  exact ⟨places, by rw [HostPort.notices, out, List.countP_cons]⟩

/-- The head leaves: a withheld report joins, and one that leaves is cleared or followed by the next (R170, R171). -/
theorem leave : h.leave.QueueOk := by
  cases out : h.out with
  | nil =>
    rw [h.leave_empty out]
    exact ok
  | cons m rest =>
    obtain ⟨places, split⟩ := ok.tail out
    have all := ok.notices
    have fewer : rest.countP HostMsg.isNotice ≤ h.notices := split ▸ Nat.le_add_right ..
    cases state : h.overflow with
    | clear =>
      rw [HostPort.leave_clear out state]
      obtain ⟨few, absent, none'⟩ := ok.clear state
      rw [out, List.mem_cons, not_or] at absent
      exact
        { places := by simp only []; omega
          notices := fewer.trans all
          clear := fun _ => ⟨fewer.trans few, absent.2, none'⟩
          held := fun held => nomatch state.symm.trans held
          queued := fun queued => nomatch state.symm.trans queued
          count := ok.count
          since := ok.since }
    | held =>
      rw [HostPort.leave_held out state]
      obtain ⟨-, few, absent, some'⟩ := ok.held state
      rw [out, List.mem_cons, not_or] at absent
      have joined : (rest ++ [HostMsg.overflow]).countP HostMsg.isNotice ≤ 32 :=
        (countP_isNotice_join ..).trans (Nat.succ_le_succ (fewer.trans few))
      exact
        { places := by simpa using places
          notices := joined
          clear := nofun
          held := nofun
          queued := fun _ => ⟨by simp [List.count_eq_zero_of_not_mem absent.2], some'⟩
          count := ok.count
          since := by simp }
    | queued =>
      obtain ⟨one, some'⟩ := ok.queued state
      rw [out, List.count_cons] at one
      by_cases report : m = .overflow
      · subst report
        have absent : rest.count HostMsg.overflow = 0 := by simpa using one
        have split : rest.countP HostMsg.isNotice + 1 = h.notices := split
        by_cases last : h.overflowSince = 0
        · rw [HostPort.leave_last_report out state rfl last]
          exact
            { places := by simp only []; omega
              notices := fewer.trans all
              clear := fun _ => ⟨by simp only [HostPort.notices]; omega, List.count_eq_zero.1 absent, rfl⟩
              held := nofun
              queued := nofun
              count := by simp
              since := ok.since }
        · rw [HostPort.leave_next_report out state rfl last]
          have joined : (rest ++ [HostMsg.overflow]).countP HostMsg.isNotice ≤ 32 :=
            (countP_isNotice_join ..).trans (split.trans_le all)
          exact
            { places := by simpa using places
              notices := joined
              clear := fun clear => nomatch state.symm.trans clear
              held := fun held => nomatch state.symm.trans held
              queued := fun _ => ⟨by simp [absent], Nat.pos_of_ne_zero last⟩
              count := ok.since
              since := by simp }
      · rw [HostPort.leave_queued_other out state report]
        exact
          { places := by simp only []; omega
            notices := fewer.trans all
            clear := fun clear => nomatch state.symm.trans clear
            held := fun held => nomatch state.symm.trans held
            queued := fun _ => ⟨by simpa [report] using one, some'⟩
            count := ok.count
            since := ok.since }

theorem reading (m : HostMsg) : (h.reading m).QueueOk :=
  { ok with
    since := by
      simp only [HostPort.reading]
      split
      · simp
      · exact ok.since }

theorem event (e : h.Event k) : k.QueueOk := by
  cases e with
  | notice n => exact ok.claim n
  | leave => exact ok.leave
  | firstByte m => exact ok.reading m
  | shift | turn | accept | acceptEmpty | write | store | cut => exact ok.inbound ..

end HostPort.QueueOk

theorem HostPort.Event.heldPlace {h k : HostPort} (e : h.Event k) : k.heldPlace = h.heldPlace := by
  cases e <;> simp [HostPort.reading]

theorem HostPort.OutboundOk.event {h k : HostPort} (ok : h.OutboundOk) (e : h.Event k) : k.OutboundOk := by
  obtain ⟨free, ok⟩ := HostPort.outboundOk_iff.1 ok
  exact HostPort.outboundOk_iff.2 ⟨e.heldPlace.trans free, ok.event e⟩

/-- A request is taken where the queue has room, so its place is there (R166). -/
theorem State.beginRequest_queueOk {s : State} (ok : s.host.OutboundOk) (room : s.host.out.length < 48) :
    s.beginRequest.host.heldPlace = true ∧ s.beginRequest.host.QueueOk := by
  obtain ⟨-, -, notices, clear, held, queued, count, since⟩ := ok
  rw [s.beginRequest_eq]
  exact ⟨rfl, room, notices, clear, fun state => absurd (held state).1 (Nat.ne_of_lt room), queued, count, since⟩

/-- The reply takes the place held for it, and the queue is as long as it was counted. -/
theorem State.joinReply_outboundOk {s : State} (ok : s.host.QueueOk) (taken : s.host.heldPlace = true) (r : Reply) :
    (s.joinReply r).host.OutboundOk := by
  obtain ⟨places, notices, clear, held, queued, count, since⟩ := ok
  rw [taken, if_pos rfl] at places held
  have same : (s.host.out ++ [HostMsg.reply r]).countP HostMsg.isNotice = s.host.notices := by
    simp [HostPort.notices, HostMsg.isNotice]
  refine ⟨rfl, by simpa [State.joinReply] using places, same.trans_le notices, fun state => ?clear, fun state => ?held,
    fun state => ?queued, count, since⟩
  case clear =>
    obtain ⟨few, absent, none'⟩ := clear state
    exact ⟨same.trans_le few, by simpa [State.joinReply] using absent, none'⟩
  case held =>
    obtain ⟨full, few, absent, some'⟩ := held state
    exact ⟨by simpa [State.joinReply] using full, same.trans_le few, by simpa [State.joinReply] using absent, some'⟩
  case queued =>
    obtain ⟨one, some'⟩ := queued state
    exact ⟨by simpa [State.joinReply] using one, some'⟩

theorem State.PortStep.outboundOk {s t : State} (h : s.PortStep t) (ok : s.host.OutboundOk) : t.host.OutboundOk := by
  cases h with
  | runs h => exact h.induct (P := HostPort.OutboundOk) (fun ok e => ok.event e) ok
  | answer r room notified e =>
    rw [e]
    obtain ⟨taken, ok⟩ := State.beginRequest_queueOk ok room
    obtain ⟨taken, ok⟩ := notified.induct (P := fun k => k.heldPlace = true ∧ k.QueueOk)
      (fun k n ok => ⟨by simpa using ok.1, ok.2.claim n⟩) ⟨taken, ok⟩
    exact State.joinReply_outboundOk ok taken r
  | restart txn _ e =>
    rw [e]
    exact ⟨rfl, by simp [HostPort.reset], by simp [HostPort.notices, HostPort.reset], by simp [HostPort.notices, HostPort.reset],
      nofun, nofun, by simp [HostPort.reset], by simp [HostPort.reset]⟩

/-! ## The inbound buffer is accounted for (R165 to R168) -/

/-- Bytes that the whole requests hold. -/
def HostPort.stored (h : HostPort) : Nat := (h.requests.map fun r => 3 + r.body.length).sum

/-- The bytes of the requests when one more is stored. -/
theorem sum_requests_join (requests : List Request) (r : Request) :
    ((requests ++ [r]).map fun q => 3 + q.body.length).sum =
      (requests.map fun q => 3 + q.body.length).sum + (3 + r.body.length) := by
  simp

section
variable {h : HostPort}

theorem HostPort.inboundOk_idle (idle : h.txn.inBody = false) : h.InboundOk ↔ h.inboundFree + h.stored = 1024 := by
  cases txn : h.txn with
  | requestWrite r =>
    rw [txn] at idle
    cases r <;> simp_all [HostPort.InboundOk, HostPort.inboundUsed, HostPort.stored, Transaction.inBody]
  | _ => simp [HostPort.InboundOk, HostPort.inboundUsed, HostPort.stored, txn]

theorem HostPort.inboundOk_body {kind : Byte} {length : Nat} {written : List Byte}
    (txn : h.txn = .requestWrite (.body kind length written)) :
    h.InboundOk ↔ h.inboundFree + (h.stored + (3 + length)) = 1024 ∧ written.length < length ∧ length ≤ 260 := by
  simp [HostPort.InboundOk, HostPort.inboundUsed, HostPort.stored, txn]

/-- The account reads the requests, the free bytes and the transaction alone. -/
theorem HostPort.InboundOk.congr {k : HostPort} (ok : h.InboundOk) (requests : k.requests = h.requests)
    (free : k.inboundFree = h.inboundFree) (txn : k.txn = h.txn) : k.InboundOk := by
  simpa only [HostPort.InboundOk, HostPort.inboundUsed, requests, free, txn] using ok

theorem HostPort.InboundOk.event {k : HostPort} (ok : h.InboundOk) (e : h.Event k) : k.InboundOk := by
  cases e with
  | notice | leave => exact ok.congr (by simp) (by simp) (by simp)
  | firstByte | shift => exact ok.congr rfl rfl rfl
  | turn idle idle' => exact (HostPort.inboundOk_idle idle').2 ((HostPort.inboundOk_idle idle).1 ok)
  | accept idle some' short fits =>
    have account := (HostPort.inboundOk_idle idle).1 ok
    refine (HostPort.inboundOk_body rfl).2 ⟨?_, some', short⟩
    simp only [HostPort.stored] at account ⊢
    omega
  | acceptEmpty idle fits =>
    have account := (HostPort.inboundOk_idle idle).1 ok
    refine (HostPort.inboundOk_idle rfl).2 ?_
    simp only [HostPort.stored, sum_requests_join, List.length_nil] at account ⊢
    omega
  | write b txn more =>
    obtain ⟨account, -, short⟩ := (HostPort.inboundOk_body txn).1 ok
    exact (HostPort.inboundOk_body rfl).2 ⟨account, by simpa using more, short⟩
  | store b txn last =>
    obtain ⟨account, more, -⟩ := (HostPort.inboundOk_body txn).1 ok
    refine (HostPort.inboundOk_idle rfl).2 ?_
    simp only [HostPort.stored, sum_requests_join, List.length_append, List.length_singleton] at account ⊢
    omega
  | cut txn =>
    obtain ⟨account, -, -⟩ := (HostPort.inboundOk_body txn).1 ok
    refine (HostPort.inboundOk_idle rfl).2 ?_
    simp only [HostPort.stored] at account ⊢
    omega

end

/-- The bytes of a request that is taken are free again (R166). -/
theorem State.beginRequest_inboundOk {s : State} (ok : s.host.InboundOk) : s.beginRequest.host.InboundOk := by
  have moved : ((s.host.requests.take 1).map fun r => 3 + r.body.length).sum
      + (s.host.requests.tail.map fun r => 3 + r.body.length).sum = (s.host.requests.map fun r => 3 + r.body.length).sum := by
    cases s.host.requests <;> simp
  obtain ⟨account, reception⟩ := ok
  rw [s.beginRequest_eq]
  refine ⟨?_, reception⟩
  simp only [HostPort.inboundUsed] at account ⊢
  omega

theorem State.PortStep.inboundOk {s t : State} (h : s.PortStep t) (ok : s.host.InboundOk) : t.host.InboundOk := by
  cases h with
  | runs h => exact h.induct (P := HostPort.InboundOk) (fun ok e => ok.event e) ok
  | answer r _ notified e =>
    rw [e]
    obtain ⟨-, requests, free, txn⟩ := notified.host_rest
    exact (State.beginRequest_inboundOk ok).congr requests free txn
  | restart txn idle e =>
    rw [e]
    exact (HostPort.inboundOk_idle idle).2 rfl

/-- Settles O8: each event of the Host Port, and each request from its taking to its reply, keeps the bounds and the account. -/
theorem hostPortBuffersStayBounded : Obligations.HostPortBuffersStayBounded :=
  ⟨fun _ _ ok e => (State.PortStep.step e).outboundOk ok, fun _ _ ok e => (State.PortStep.step e).inboundOk ok⟩

end Sys2Proof.Machine
end

section
/-! SCAN by the fields of its body (O33). -/

namespace Sys2Proof.Machine

/-- The next slot is one above the sixteenth record listed, else 512. -/
theorem scanNext_eq (listed : List (Nat × Record)) :
    scanNext listed = if h : listed.length = 16 then (listed[15]'(by omega)).1 + 1 else 512 := by
  rw [scanNext, List.getLast?_eq_getElem?]
  split
  next e last =>
    by_cases full : listed.length = 16
    · simp only [full, List.getElem?_eq_some_iff] at last
      obtain ⟨-, rfl⟩ := last
      rw [dif_pos full]
      exact if_pos full
    · rw [dif_neg full]
      exact if_neg full
  next none' =>
    rw [dif_neg (by have := List.getElem?_eq_none_iff.1 none'; omega)]

/-- The body of a SCAN (10.2). -/
def scanBody (id : Byte) (start : Nat) (states links : Byte) : List Byte := [id] ++ bytes2 start ++ [states, links]

section
variable {id states links : Byte} {start : Nat} (s : State)

theorem wordAt_scanBody (small : start ≤ 65535) : wordAt (scanBody id start states links) 1 = start := bytes2_read small

/-- The start slot or a mask of a SCAN is out of its range. -/
theorem scan_unfit :
    (Config.slotCount < start || !maskFits states.toNat 6 || !maskFits links.toNat 4) = true ↔
      512 < start ∨ 64 ≤ states.toNat ∨ 16 ≤ links.toNat := by
  simp [maskFits, Config.slotCount, or_assoc]

theorem actScan_lists (small : start ≤ 65535) (fits : ¬(512 < start ∨ 64 ≤ states.toNat ∨ 16 ≤ links.toNat)) :
    actScan (scanBody id start states links) s =
      let listed := (Table.matching s.table start states links).take 16
      s.accept (byte listed.length :: (listed.flatMap scanEntry ++ bytes2 (scanNext listed))) := by
  rw [actScan, wordAt_scanBody small]
  exact (if_neg (not_not_intro rfl)).trans (if_neg (mt scan_unfit.1 fits))

theorem actScan_badValue (small : start ≤ 65535) (unfit : 512 < start ∨ 64 ≤ states.toNat ∨ 16 ≤ links.toNat) :
    actScan (scanBody id start states links) s = s.refuse .badValue := by
  rw [actScan, wordAt_scanBody small]
  exact (if_neg (not_not_intro rfl)).trans (if_pos (scan_unfit.2 unfit))

end

/-- Settles O33: the records listed are those of the filter, and the request is answered from an unchanged state. -/
theorem scanListsMatchingRecords : Obligations.ScanListsMatchingRecords := by
  intro s id states links start small takes listed next
  refine ⟨fun slot state link => ?lists, fun unfit => ?refused⟩
  case lists =>
    rw [show next = scanNext listed from (scanNext_eq listed).symm]
    exact State.whileRunning_takes_quiet (kind := kindScan) (t := s) takes fun host =>
      actScan_lists (s.withHost host) small (by omega)
  case refused =>
    exact State.whileRunning_takes_quiet (kind := kindScan) (t := s) takes fun host =>
      actScan_badValue (s.withHost host) small unfit

end Sys2Proof.Machine
end

section
/-! REFRESH by the record that it finds (O31). -/

namespace Sys2Proof.Machine

theorem State.keyRequest_holds {s : State} {slot : Nat} {r : Record} (holds : s.Holds r.key slot r) (id : Byte)
    (act : Nat → Record → Answer) : s.keyRequest (keyBody id r.key) act = act slot r := by
  have named : keyAt? (keyBody id r.key) 1 = some r.key := keyOf?_bytes r.key
  rw [State.keyRequest, named]
  exact State.onRecord_holds holds _

theorem State.keyRequest_lacks {s : State} {key : Key} (lacks : s.Lacks key) (id : Byte) (act : Nat → Record → Answer) :
    s.keyRequest (keyBody id key) act = s.refuse .noRecord := by
  have named : keyAt? (keyBody id key) 1 = some key := keyOf?_bytes key
  rw [State.keyRequest, named]
  simp only [State.onRecord, State.findKey_of_lacks lacks]
  rfl

theorem Record.restarted_eq (r : Record) (staleLimit : Nat) :
    r.restarted staleLimit =
      { r with
        failCount := 0
        state := if r.held = none then .pending else if r.age < staleLimit then .due else .stale } := by
  simp [Record.restarted]

theorem Standing.isSweeping_false_iff {st : Standing} : st.isSweeping = false ↔ ∀ e, st ≠ .sweeping e := by
  cases st <;> simp [Standing.isSweeping]

section
variable {s : State} {id : Byte} {slot : Nat} {r : Record}

theorem actRefresh_fixed (holds : s.Holds r.key slot r) (fixed : r.policy = .fixed) :
    actRefresh (keyBody id r.key) s = s.refuse .policyFixed := by
  rw [actRefresh, State.keyRequest_holds holds, if_pos fixed]

theorem actRefresh_swept (holds : s.Holds r.key slot r) (auto : r.policy = .auto) (swept : r.standing.isSweeping = true) :
    actRefresh (keyBody id r.key) s = s.refuse .inProgress := by
  rw [actRefresh, State.keyRequest_holds holds, if_neg (by simp [auto]), if_pos swept]

theorem State.refreshClaim_marks (live : r.state ≠ .faulted) : s.refreshClaim slot r = s.mark .host slot r := by
  rw [State.refreshClaim, if_neg live]

/-- The state with the record freshly started and WAITING(REQUESTED), before the offer of a place (R24). -/
def State.restarted (s : State) (slot : Nat) : State :=
  s.modRecord slot fun r => { r.restarted s.params.staleLimit with standing := .waiting .requested }

theorem State.refreshClaim_restarts (faulted : r.state = .faulted) :
    s.refreshClaim slot r =
      (((s.restarted slot).offer slot r.key .requested).1, some ((s.restarted slot).offer slot r.key .requested).2) := by
  rw [State.refreshClaim, if_pos faulted]
  simp only [State.waitAndOffer, State.setStanding, State.modRecord_modRecord]
  rfl

/-- The marking and the fresh start read nothing of the Host Port. -/
theorem State.refreshClaim_withHost (host : HostPort) :
    (s.withHost host).refreshClaim slot r = ((s.refreshClaim slot r).1.withHost host, (s.refreshClaim slot r).2) := by
  by_cases faulted : r.state = .faulted
  · rw [State.refreshClaim_restarts faulted, State.refreshClaim_restarts faulted]
    have offered := (s.restarted slot).offer_withHost host slot r.key .requested
    exact congrArg (fun p : State × RefreshAction => (p.1, some p.2)) offered
  · rw [State.refreshClaim_marks faulted, State.refreshClaim_marks faulted, State.mark_withHost]

/-- A claim that answers an action is reported with the state in which it leaves the record. -/
theorem State.refresh_claims {t : State} {a : RefreshAction} {after : RecState} (takes : s.Takes kindRefresh (keyBody id r.key))
    (holds : s.Holds r.key slot r) (auto : r.policy = .auto) (unswept : ∀ e, r.standing ≠ .sweeping e)
    (claimed : s.refreshClaim slot r = (t, some a)) (leaves : ∃ x, Table.get t.table slot = some x ∧ x.state = after) :
    exec (.refresh (keyBody id r.key)) s =
      .next
        { t with
          host := s.replied
            { kind := kindRefresh
              id := id
              status := if a = .failed then .queueFull else .ok
              payload := bytes2 slot ++ [after.code, a.code] } } := by
  obtain ⟨x, found, rfl⟩ := leaves
  refine State.whileRunning_takes_quiet takes fun host => ?_
  rw [actRefresh, State.keyRequest_holds (s := s.withHost host) holds, if_neg (by simp [auto]),
    if_neg (by simp [Standing.isSweeping_false_iff.2 unswept]), State.refreshClaim_withHost, claimed]
  simp only [State.stateByte_of_get (s := t.withHost host) found]

end

/-- Settles O31: the marking and the offer read nothing of the Host Port, and change nothing of the record but its standing. -/
theorem refreshDecidedByRecord : Obligations.RefreshDecidedByRecord := by
  refine ⟨fun s id key takes lacks => ?noRecord, fun s id slot r takes holds => ?record⟩
  case noRecord =>
    exact State.whileRunning_takes_quiet (kind := kindRefresh) (t := s) takes fun host =>
      State.keyRequest_lacks (s := s.withHost host) lacks id _
  case record =>
    intro reply statusOf
    have found := State.get_of_holds holds
    refine ⟨fun fixed => ?fixed, fun e auto swept => ?swept, fun auto unswept live => ?marks,
      fun auto unswept faulted => ?restarts⟩
    case fixed =>
      exact State.whileRunning_takes_quiet (kind := kindRefresh) (t := s) takes fun host =>
        actRefresh_fixed (s := s.withHost host) holds fixed
    case swept =>
      exact State.whileRunning_takes_quiet (kind := kindRefresh) (t := s) takes fun host =>
        actRefresh_swept (s := s.withHost host) holds auto (by rw [swept]; rfl)
    case marks =>
      have some' := State.mark_host_ne_none (s := s) (slot := slot) (Standing.isSweeping_false_iff.2 unswept)
      obtain ⟨a, action⟩ := Option.ne_none_iff_exists'.1 some'
      obtain ⟨st, same⟩ := s.mark_sameButStandings .host slot r slot
      rw [found] at same
      exact ⟨a, action, State.refresh_claims takes holds auto unswept
        ((State.refreshClaim_marks live).trans (Prod.ext rfl action)) ⟨_, same, rfl⟩⟩
    case restarts =>
      intro after
      have differs : Table.DiffersAt s.table (s.restarted slot).table slot
          (some { r with failCount := 0, state := after, standing := .waiting .requested }) := by
        have started := Table.differsAt_modify found fun r =>
          { r.restarted s.params.staleLimit with standing := .waiting .requested }
        rwa [Record.restarted_eq] at started
      obtain ⟨st, same⟩ := (s.restarted slot).offer_sameButStandings slot r.key .requested slot
      rw [(differs slot).trans (if_pos rfl)] at same
      exact ⟨s.restarted slot, differs, rfl,
        State.refresh_claims takes holds auto unswept (State.refreshClaim_restarts faulted) ⟨_, same, rfl⟩⟩

end Sys2Proof.Machine
end

section
/-! The checks of a request (O20): a field is in its range exactly where its decoder answers. -/

namespace Sys2Proof.Machine

/-! ## Decoders that answer -/

/-- A decoder that answers reads a field inside its range. -/
theorem not_of_some {α : Type} {decoded : Option α} {outside : Prop} {x : α} (reads : decoded = none ↔ outside)
    (found : decoded = some x) : ¬outside := fun h => by simp [reads.2 h] at found

theorem some_of_not {α : Type} {decoded : Option α} {outside : Prop} (reads : decoded = none ↔ outside)
    (inside : ¬outside) : ∃ x, decoded = some x := Option.ne_none_iff_exists'.1 (mt reads.1 inside)

/-! ## The fields that check 3 judges (R178) -/

/-- A field that check 3 judges names nothing. -/
abbrev Misnamed (kind : Byte) (body : List Byte) : Prop := ∃ f ∈ keyFields kind, f.2 ≤ (body.getD f.1 0).toNat

section
variable {kind : Byte} {body : List Byte}

theorem named_of_none (fields : keyFields kind = []) : ¬Misnamed kind body := by
  simp [Misnamed, fields]

theorem finOf?_misnamed {i n : Nat} (fields : keyFields kind = [(i, n)]) :
    finOf? n (byteAt body i).toNat = none ↔ Misnamed kind body := by
  simp [Misnamed, fields, finOf?_none, byteAt]

theorem keyAt?_misnamed (fields : keyFields kind = [(1, 4), (2, 8), (3, 6), (4, 12)]) :
    keyAt? body 1 = none ↔ Misnamed kind body := by
  simp only [Misnamed, fields, List.mem_cons, List.not_mem_nil, or_false, exists_eq_or_imp, exists_eq_left, keyAt?, keyOf?_none,
    byteAt, Nat.reduceAdd]
  omega

theorem aliasEnds?_misnamed : aliasEnds? body = none ↔ Misnamed 0x09#8 body := by
  have fields : Misnamed 0x09#8 body ↔
      ¬((byteAt body 2).toNat ≤ 3 ∧ (byteAt body 3).toNat ≤ 7 ∧ (byteAt body 5).toNat ≤ 3 ∧ (byteAt body 6).toNat ≤ 7) := by
    simp only [Misnamed, keyFields, BitVec.reduceToNat, List.mem_cons, List.not_mem_nil, or_false, exists_eq_or_imp,
      exists_eq_left, byteAt]
    omega
  rw [fields]
  refine ⟨fun none' ⟨sourceLink, sourceChannel, targetLink, targetChannel⟩ => ?_, aliasEnds?_none⟩
  rw [aliasEnds?, finOf?_of_lt (Nat.lt_succ_of_le sourceLink), finOf?_of_lt (Nat.lt_succ_of_le sourceChannel),
    finOf?_of_lt (Nat.lt_succ_of_le targetLink), finOf?_of_lt (Nat.lt_succ_of_le targetChannel)] at none'
  cases none'

end

/-! ## The fields that check 4 judges (R178, R200) -/

theorem policyOf?_none {b : Byte} : policyOf? b = none ↔ 1 < b.toNat := by
  rw [policyOf?]
  split
  next auto => simp [auto]
  next auto =>
    split
    next fixed => simp [fixed]
    next fixed => simp only [true_iff]; bv_omega

theorem wordAt_lt (body : List Byte) (i : Nat) : wordAt body i < 65536 := by
  have := (byteAt body i).isLt
  have := (byteAt body (i + 1)).isLt
  simp only [wordAt]
  omega

/-- The phase trim of two bytes is in its range exactly in the two ends of the words (R3). -/
theorem intAt_trim (body : List Byte) (i : Nat) :
    (intAt body i < -2048 ∨ 2047 < intAt body i) ↔ ¬(wordAt body i < 2048 ∨ 65536 - 2048 ≤ wordAt body i) := by
  have small := wordAt_lt body i
  simp only [intAt, BitVec.toInt_ofNat', Int.bmod]
  omega

theorem valuesAt?_none {body : List Byte} {i : Nat} :
    valuesAt? body i = none ↔
      ¬(1 ≤ wordAt body (i + 4) ∧ (wordAt body (i + 6) < 2048 ∨ 65536 - 2048 ≤ wordAt body (i + 6))) := by
  simp only [valuesAt?, ite_eq_left_iff, reduceCtorEq, imp_false, not_not, intAt_trim]
  omega

theorem aliasToneOf?_unfit {b : Byte} : aliasToneOf? b = none ↔ ¬(b.toNat ≤ 5 ∨ b.toNat = 255) := by
  rw [aliasToneOf?_none]
  bv_omega

theorem planAt?_none {body : List Byte} :
    planAt? body = none ↔
      ¬(wordAt body 2 ≤ 4095 ∧ 1 ≤ wordAt body 4 ∧ wordAt body 4 ≤ 4095 ∧ 2 ≤ (byteAt body 6).toNat
        ∧ (byteAt body 6).toNat ≤ 16 ∧ (byteAt body 7).toNat ≤ 1) := by
  rw [planAt?]
  split
  next unset =>
    have := switchOf?_none.1 unset
    simp only [true_iff]
    omega
  next capture set =>
    have narrow := not_of_some switchOf?_none set
    simp only [ite_eq_left_iff, reduceCtorEq, imp_false, not_not]
    omega

theorem paramIdOf?_unfit {b : Byte} : paramIdOf? b = none ↔ ¬(1 ≤ b.toNat ∧ b.toNat ≤ 17) := by
  rw [paramIdOf?_none]
  omega

/-- The value of a parameter is accepted exactly in the range of 10.6, INTERVAL_CAP below STALE_LIMIT. -/
theorem Params.accepts_iff_range (p : Params) (id : ParamId) (v : Nat) :
    p.accepts id v = true ↔
      (p.range id.number).1 ≤ v ∧ v ≤ (p.range id.number).2 ∧ (id.number = 3 → v < p.staleLimit) := by
  cases id <;> simp [Params.accepts, Params.range, ParamId.number, within, maskFits] <;> omega

end Sys2Proof.Machine
end

section
/-! The first check that a request fails (O20): each act tries the checks of R178 in their order, each by a decoder. -/

namespace Sys2Proof.Machine

/-! ## What the act of a request answers (R178) -/

/-- The statuses of checks 1 to 4. -/
def checkStatuses : List Status := [.unknownKind, .length, .badKey, .badValue]

/-- The kinds whose request names a record: LOAD, READ, RETIRE, SET_POLICY, REFRESH. -/
def keyedKinds : List Byte := [0x02#8, 0x03#8, 0x04#8, 0x05#8, 0x06#8]

/-- The answer of a request whose length and key fields have passed: check 4 refuses it, or it is acted on, where its kind names a
record on the record found. -/
inductive State.ActsOn (s : State) (kind : Byte) (body : List Byte) : Answer → Prop
  | badValue (unfit : otherFieldsFit s.params kind body = false) : s.ActsOn kind body (s.refuse .badValue)
  | plain {a : Answer} (fits : otherFieldsFit s.params kind body = true) (keyless : kind ∉ keyedKinds)
      (status : a.status ∉ checkStatuses) : s.ActsOn kind body a
  | record {key : Key} {act : Nat → Record → Answer} (fits : otherFieldsFit s.params kind body = true)
      (named : keyAt? body 1 = some key) (status : ∀ slot r, (act slot r).status ∉ checkStatuses) :
      s.ActsOn kind body (s.onRecord key act)

/-- The answer of a request of a known kind, by the first of checks 2 to 4 that it fails. -/
inductive State.Checked (s : State) (kind : Byte) (body : List Byte) : Answer → Prop
  | length (wrong : body.length ∉ bodyLengths kind) : s.Checked kind body (s.refuse .length)
  | badKey (right : body.length ∈ bodyLengths kind) (misnamed : Misnamed kind body) : s.Checked kind body (s.refuse .badKey)
  | fields {a : Answer} (right : body.length ∈ bodyLengths kind) (named : ¬Misnamed kind body) (acts : s.ActsOn kind body a) :
      s.Checked kind body a

section
variable {s : State} {kind : Byte} {body : List Byte} {a : Answer}

/-- The answer carries the first failure, and none of the four statuses where there is none. -/
theorem State.Checked.failure (checked : s.Checked kind body a) (known : ¬(kind = 0x00#8 ∨ 0x14#8 < kind)) :
    (∃ status, firstFailure s.params kind body = some status ∧ a = s.refuse status)
      ∨ (firstFailure s.params kind body = none ∧ a.status ∉ checkStatuses
        ∧ (kind ∈ keyedKinds → ∃ key act, keyAt? body 1 = some key ∧ a = s.onRecord key act)) := by
  rw [firstFailure, if_neg known]
  cases checked with
  | length wrong => exact .inl ⟨.length, if_pos wrong, rfl⟩
  | badKey right misnamed => exact .inl ⟨.badKey, (if_neg (not_not_intro right)).trans (if_pos misnamed), rfl⟩
  | fields right named acts =>
    rw [if_neg (not_not_intro right), if_neg named]
    cases acts with
    | badValue unfit => exact .inl ⟨.badValue, if_pos unfit, rfl⟩
    | plain fits keyless status => exact .inr ⟨if_neg (by simp [fits]), status, fun keyed => absurd keyed keyless⟩
    | record fits named status =>
      refine .inr ⟨if_neg (by simp [fits]), ?_, fun _ => ⟨_, _, named, rfl⟩⟩
      simp only [State.onRecord]
      split
      · exact (by decide : Status.noRecord ∉ checkStatuses)
      · exact status _ _

end

namespace State.Checked

variable {s : State} {kind : Byte} {body : List Byte}

/-- Check 2 of a kind that has one length. -/
theorem sized {n : Nat} {rest : Answer} (lengths : bodyLengths kind = [n])
    (right : body.length ∈ bodyLengths kind → s.Checked kind body rest) :
    s.Checked kind body (if body.length ≠ n then s.refuse .length else rest) := by
  split
  next wrong => exact .length (by simpa [lengths] using wrong)
  next length => exact right (by simpa [lengths] using length)

/-- A request of a kind that names no key, acted on once its length is right. -/
theorem unnamed {n : Nat} {rest : Answer} (lengths : bodyLengths kind = [n]) (fields : keyFields kind = [])
    (acts : s.ActsOn kind body rest) : s.Checked kind body (if body.length ≠ n then s.refuse .length else rest) :=
  sized lengths fun right => .fields right (named_of_none fields) acts

/-! ### Record requests -/

theorem ok_unchecked : Status.ok ∉ checkStatuses := by decide

theorem createClaim_unchecked (key : Key) (policy : Policy) (pin : Bool) (values : Option Values) :
    (s.createClaim key policy pin values).status ∉ checkStatuses := by
  simp only [State.createClaim]
  (repeat' split)
  · exact (by decide : Status.keyExists ∉ checkStatuses)
  · exact (by decide : Status.tableFull ∉ checkStatuses)
  · exact ok_unchecked

theorem create : s.Checked 0x01#8 body (actCreate body s) := by
  simp only [actCreate]
  split
  next wrong => exact .length (by simpa [bodyLengths] using wrong)
  next length =>
    have right : body.length ∈ bodyLengths 0x01#8 := by simpa [bodyLengths, or_iff_not_imp_left] using length
    split
    next unnamed => exact .badKey right ((keyAt?_misnamed rfl).1 unnamed)
    next key found =>
      refine .fields right (not_of_some (keyAt?_misnamed rfl) found) ?_
      split
      next policy pin atPolicy atPin =>
        have policyFits := not_lt.1 (not_of_some policyOf?_none atPolicy)
        have pinFits := not_lt.1 (not_of_some switchOf?_none atPin)
        split
        next long =>
          split
          next unfit => exact .badValue (decide_eq_false fun fits => valuesAt?_none.1 unfit (fits.2.2 long))
          next v found =>
            exact .plain (decide_eq_true ⟨policyFits, pinFits, fun _ => not_not.1 (not_of_some valuesAt?_none found)⟩)
              (by decide) (createClaim_unchecked _ _ _ _)
        next short =>
          exact .plain (decide_eq_true ⟨policyFits, pinFits, fun long => absurd long short⟩) (by decide)
            (createClaim_unchecked _ _ _ _)
      next unread =>
        refine .badValue (decide_eq_false fun ⟨policyFits, pinFits, _⟩ => ?_)
        obtain ⟨policy, atPolicy⟩ := some_of_not policyOf?_none (not_lt.2 policyFits)
        obtain ⟨pin, atPin⟩ := some_of_not switchOf?_none (not_lt.2 pinFits)
        exact unread policy pin atPolicy atPin

theorem load : s.Checked 0x02#8 body (actLoad body s) := by
  refine sized rfl fun right => ?_
  split
  next unnamed => exact .badKey right ((keyAt?_misnamed rfl).1 unnamed)
  next key found =>
    refine .fields right (not_of_some (keyAt?_misnamed rfl) found) ?_
    split
    next unfit => exact .badValue (decide_eq_false (valuesAt?_none.1 unfit))
    next v fits =>
      exact .record (decide_eq_true (not_not.1 (not_of_some valuesAt?_none fits))) found fun _ _ => ok_unchecked

theorem keyRequest {act : Nat → Record → Answer} (lengths : bodyLengths kind = [5])
    (fields : keyFields kind = [(1, 4), (2, 8), (3, 6), (4, 12)]) (fits : otherFieldsFit s.params kind body = true)
    (status : ∀ slot r, (act slot r).status ∉ checkStatuses) : s.Checked kind body (s.keyRequest body act) := by
  refine sized lengths fun right => ?_
  split
  next unnamed => exact .badKey right ((keyAt?_misnamed fields).1 unnamed)
  next key found => exact .fields right (not_of_some (keyAt?_misnamed fields) found) (.record fits found status)

theorem readRecord : s.Checked 0x03#8 body (actRead body s) := keyRequest rfl rfl rfl fun _ _ => ok_unchecked

theorem retire : s.Checked 0x04#8 body (actRetire body s) := keyRequest rfl rfl rfl fun _ _ => ok_unchecked

theorem setPolicy : s.Checked 0x05#8 body (actSetPolicy body s) := by
  refine sized rfl fun right => ?_
  split
  next unnamed => exact .badKey right ((keyAt?_misnamed rfl).1 unnamed)
  next key found =>
    refine .fields right (not_of_some (keyAt?_misnamed rfl) found) ?_
    split
    next policy pin atPolicy atPin =>
      exact .record
        (decide_eq_true ⟨not_lt.1 (not_of_some policyOf?_none atPolicy), not_lt.1 (not_of_some switchOf?_none atPin)⟩)
        found fun _ _ => ok_unchecked
    next unread =>
      refine .badValue (decide_eq_false fun ⟨policyFits, pinFits⟩ => ?_)
      obtain ⟨policy, atPolicy⟩ := some_of_not policyOf?_none (not_lt.2 policyFits)
      obtain ⟨pin, atPin⟩ := some_of_not switchOf?_none (not_lt.2 pinFits)
      exact unread policy pin atPolicy atPin

theorem refresh : s.Checked 0x06#8 body (actRefresh body s) := by
  refine keyRequest rfl rfl rfl fun slot r => ?_
  (repeat' split)
  · exact (by decide : Status.policyFixed ∉ checkStatuses)
  · exact (by decide : Status.inProgress ∉ checkStatuses)
  · exact (by decide : Status.queueFull ∉ checkStatuses)
  · exact ok_unchecked
  · exact (by decide : Status.inProgress ∉ checkStatuses)

theorem refreshScope : s.Checked 0x07#8 body (actRefreshScope body s) := by
  refine sized rfl fun right => ?_
  split
  next unnamed => exact .badKey right ((finOf?_misnamed rfl).1 unnamed)
  next link found =>
    have masks : (!maskFits (byteAt body 3).toNat 6 || !maskFits (wordAt body 4) 12) = true ↔
        ¬((byteAt body 3).toNat < 64 ∧ wordAt body 4 < 4096) := by
      simp [maskFits, imp_iff_not_or]
    refine .fields right (not_of_some (finOf?_misnamed rfl) found) ?_
    split
    next unfit => exact .badValue (decide_eq_false (masks.1 unfit))
    next fits => exact .plain (decide_eq_true (not_not.1 (mt masks.2 fits))) (by decide) ok_unchecked

theorem scan : s.Checked 0x08#8 body (actScan body s) := by
  refine unnamed rfl rfl ?_
  have ranges :
      (Config.slotCount < wordAt body 1 || !maskFits (byteAt body 3).toNat 6 || !maskFits (byteAt body 4).toNat 4) = true ↔
        ¬(wordAt body 1 ≤ 512 ∧ (byteAt body 3).toNat < 64 ∧ (byteAt body 4).toNat < 16) :=
    scan_unfit.trans (by omega)
  split
  next unfit => exact .badValue (decide_eq_false (ranges.1 unfit))
  next fits => exact .plain (decide_eq_true (not_not.1 (mt ranges.2 fits))) (by decide) ok_unchecked

/-! ### Aliases and the store -/

theorem aliasSet : s.Checked 0x09#8 body (actAliasSet body s) := by
  refine sized rfl fun right => ?_
  split
  next unnamed => exact .badKey right (aliasEnds?_misnamed.1 unnamed)
  next source target ends =>
    refine .fields right (not_of_some aliasEnds?_misnamed ends) ?_
    have same : source = target ↔
        ((byteAt body 2).toNat, (byteAt body 3).toNat) = ((byteAt body 5).toNat, (byteAt body 6).toNat) := by
      obtain ⟨sourceLink, sourceChannel, targetLink, targetChannel⟩ := aliasEnds?_some.1 ends
      simp [← sourceLink, ← sourceChannel, ← targetLink, ← targetChannel, Prod.ext_iff, Fin.ext_iff]
    split
    next index tone mode atIndex atTone atMode =>
      split
      next loop => exact .badValue (decide_eq_false fun ⟨_, _, _, distinct⟩ => distinct (same.1 loop))
      next distinct =>
        exact .plain
          (decide_eq_true
            ⟨not_lt.1 (not_of_some finOf?_none atIndex), not_not.1 (not_of_some aliasToneOf?_unfit atTone),
              not_lt.1 (not_of_some aliasModeOf?_none atMode), mt same.2 distinct⟩)
          (by decide) ok_unchecked
    next unread =>
      refine .badValue (decide_eq_false fun ⟨indexFits, toneFits, modeFits, _⟩ => ?_)
      obtain ⟨index, atIndex⟩ := some_of_not finOf?_none (not_le.2 (Nat.lt_succ_of_le indexFits))
      obtain ⟨tone, atTone⟩ := some_of_not aliasToneOf?_unfit (not_not_intro toneFits)
      obtain ⟨mode, atMode⟩ := some_of_not aliasModeOf?_none (not_lt.2 modeFits)
      exact unread index tone mode atIndex atTone atMode

theorem indexRequest {act : Fin 8 → Answer} (lengths : bodyLengths kind = [2]) (fields : keyFields kind = [])
    (fits : otherFieldsFit s.params kind body = decide ((byteAt body 1).toNat ≤ 7)) (keyless : kind ∉ keyedKinds)
    (status : ∀ i, (act i).status ∉ checkStatuses) : s.Checked kind body (s.indexRequest body act) := by
  refine unnamed lengths fields ?_
  split
  next beyond => exact .badValue (fits.trans (decide_eq_false (not_le.2 (finOf?_none.1 beyond))))
  next i found =>
    exact .plain (fits.trans (decide_eq_true (not_lt.1 (not_of_some finOf?_none found)))) keyless (status i)

theorem aliasClear : s.Checked 0x0A#8 body (actAliasClear body s) :=
  indexRequest rfl rfl rfl (by decide) fun _ => ok_unchecked

theorem aliasRead : s.Checked 0x0B#8 body (actAliasRead body s) :=
  indexRequest rfl rfl rfl (by decide) fun _ => ok_unchecked

theorem tonePlanSet : s.Checked 0x0C#8 body (actTonePlanSet body s) := by
  refine sized rfl fun right => ?_
  split
  next unnamed => exact .badKey right ((finOf?_misnamed rfl).1 unnamed)
  next tone found =>
    refine .fields right (not_of_some (finOf?_misnamed rfl) found) ?_
    split
    next plan invalidate atPlan atOption =>
      obtain ⟨init, low, high, few, many, capture⟩ := not_not.1 (not_of_some planAt?_none atPlan)
      have fits : otherFieldsFit s.params 0x0C#8 body = true :=
        decide_eq_true ⟨init, low, high, few, many, capture, not_lt.1 (not_of_some switchOf?_none atOption)⟩
      split <;> exact .plain fits (by decide) ok_unchecked
    next unread =>
      refine .badValue (decide_eq_false fun fits => ?_)
      obtain ⟨init, low, high, few, many, capture, optionFits⟩ := fits
      obtain ⟨plan, atPlan⟩ := some_of_not planAt?_none (not_not_intro ⟨init, low, high, few, many, capture⟩)
      obtain ⟨invalidate, atOption⟩ := some_of_not switchOf?_none (not_lt.2 optionFits)
      exact unread plan invalidate atPlan atOption

theorem tonePlanRead : s.Checked 0x0D#8 body (actTonePlanRead body s) := by
  refine sized rfl fun right => ?_
  split
  next unnamed => exact .badKey right ((finOf?_misnamed rfl).1 unnamed)
  next tone found => exact .fields right (not_of_some (finOf?_misnamed rfl) found) (.plain rfl (by decide) ok_unchecked)

theorem levelSet : s.Checked 0x0E#8 body (actLevelSet body s) := by
  refine unnamed rfl rfl ?_
  split
  next beyond => exact .badValue (decide_eq_false fun fits => absurd fits.1 (not_le.2 (finOf?_none.1 beyond)))
  next level found =>
    split
    next zero => exact .badValue (decide_eq_false fun fits => absurd zero (Nat.one_le_iff_ne_zero.1 fits.2))
    next nonzero =>
      exact .plain (decide_eq_true ⟨not_lt.1 (not_of_some finOf?_none found), Nat.one_le_iff_ne_zero.2 nonzero⟩) (by decide)
        ok_unchecked

theorem levelRead : s.Checked 0x0F#8 body (actLevelRead body s) := by
  refine unnamed rfl rfl ?_
  split
  next beyond => exact .badValue (decide_eq_false (not_le.2 (finOf?_none.1 beyond)))
  next level found =>
    exact .plain (decide_eq_true (not_lt.1 (not_of_some finOf?_none found))) (by decide) ok_unchecked

theorem configSet : s.Checked 0x10#8 body (actConfigSet body s) := by
  refine unnamed rfl rfl ?_
  split
  next unknown => exact .badValue (decide_eq_false fun ⟨low, high, _⟩ => paramIdOf?_unfit.1 unknown ⟨low, high⟩)
  next id named =>
    obtain ⟨low, high⟩ := not_not.1 (not_of_some paramIdOf?_unfit named)
    have range := s.params.accepts_iff_range id (wordAt body 2)
    rw [ParamId.number_of_byte named] at range
    split
    next accepted => exact .plain (decide_eq_true ⟨low, high, range.1 accepted⟩) (by decide) ok_unchecked
    next refused => exact .badValue (decide_eq_false fun ⟨_, _, fits⟩ => refused (range.2 fits))

theorem configGet : s.Checked 0x11#8 body (actConfigGet body s) := by
  refine unnamed rfl rfl ?_
  split
  next unknown => exact .badValue (decide_eq_false (paramIdOf?_unfit.1 unknown))
  next id named => exact .plain (decide_eq_true (not_not.1 (not_of_some paramIdOf?_unfit named))) (by decide) ok_unchecked

/-! ### Links, status and resets -/

theorem linkControl : s.Checked 0x12#8 body (actLinkControl body s) := by
  refine sized rfl fun right => ?_
  split
  next unnamed => exact .badKey right ((finOf?_misnamed rfl).1 unnamed)
  next l found =>
    refine .fields right (not_of_some (finOf?_misnamed rfl) found) ?_
    split
    next unset => exact .badValue (decide_eq_false (not_le.2 (switchOf?_none.1 unset)))
    next enable set => exact .plain (decide_eq_true (not_lt.1 (not_of_some switchOf?_none set))) (by decide) ok_unchecked

theorem status : s.Checked 0x13#8 body (actStatus body s) := unnamed rfl rfl (.plain rfl (by decide) ok_unchecked)

theorem softReset : s.Checked 0x14#8 body (actSoftReset body s) := by
  refine unnamed rfl rfl ?_
  split
  next unset => exact .badValue (decide_eq_false (not_le.2 (switchOf?_none.1 unset)))
  next full set => exact .plain (decide_eq_true (not_lt.1 (not_of_some switchOf?_none set))) (by decide) ok_unchecked

theorem byKind {act : List Byte → State → Answer} (named : actOf? kind = some act) : s.Checked kind body (act body s) := by
  simp only [actOf?] at named
  split at named <;> cases named
  all_goals
    rename kind.toNat = _ => number
    obtain rfl : kind = byte _ := (byte_of_toNat kind).symm.trans (congrArg byte number)
  · exact create
  · exact load
  · exact readRecord
  · exact retire
  · exact setPolicy
  · exact refresh
  · exact refreshScope
  · exact scan
  · exact aliasSet
  · exact aliasClear
  · exact aliasRead
  · exact tonePlanSet
  · exact tonePlanRead
  · exact levelSet
  · exact levelRead
  · exact configSet
  · exact configGet
  · exact linkControl
  · exact status
  · exact softReset

end State.Checked

/-- A kind byte that names none of the twenty (R178). -/
theorem actOf?_none {kind : Byte} : actOf? kind = none ↔ kind = 0x00#8 ∨ 0x14#8 < kind := by
  simp only [actOf?]
  split
  case h_21 =>
    simp only [true_iff]
    simp only [imp_false] at *
    bv_omega
  all_goals
    simp only [reduceCtorEq, false_iff]
    bv_omega

/-- A find by key answers NO_RECORD where no record holds the four bytes that the body carries. -/
theorem State.onRecord_absent {s : State} {body : List Byte} {key : Key} (named : keyAt? body 1 = some key)
    (absent : ∀ e ∈ s.table, e.2.key.raw ≠ ⟨body.getD 1 0, body.getD 2 0, body.getD 3 0, body.getD 4 0⟩)
    (act : Nat → Record → Answer) : s.onRecord key act = s.refuse .noRecord := by
  have raw : key.raw = ⟨body.getD 1 0, body.getD 2 0, body.getD 3 0, body.getD 4 0⟩ := by
    obtain ⟨link, channel, tone, gain⟩ := keyOf?_some.1 named
    simp [Key.raw, link, channel, tone, gain, byteAt]
  have lacks : s.Lacks key := fun e he same => absent e he (same ▸ raw)
  simp only [State.onRecord, State.findKey_of_lacks lacks]

/-- The act of a kind byte is answered with the first failure, and with none of the four statuses where there is none. -/
theorem actByKind_failure (s : State) (kind : Byte) (body : List Byte) :
    (∃ status, firstFailure s.params kind body = some status ∧ actByKind kind body s = s.refuse status)
      ∨ (firstFailure s.params kind body = none ∧ (actByKind kind body s).status ∉ checkStatuses
        ∧ (kind ∈ keyedKinds → ∃ key act, keyAt? body 1 = some key ∧ actByKind kind body s = s.onRecord key act)) := by
  rw [actByKind]
  split
  next act named => exact (State.Checked.byKind named).failure (not_of_some actOf?_none named)
  next unknown => exact .inl ⟨.unknownKind, if_pos (actOf?_none.1 unknown), rfl⟩

/-- A request that its act refuses is only answered. -/
theorem exec_request_refused {s : State} {c : Instr} {kind : Byte} {body : List Byte} {status : Status}
    (row : requestOf c = some (kind, body)) (takes : s.Takes kind body)
    (refusal : actByKind kind body s.beginRequest = s.beginRequest.refuse status) :
    exec c s =
      .next { s with host := s.replied { kind := kind, id := body.headD 0x00#8, status := status, payload := [] } } := by
  have id : byteAt body 0 = body.headD 0x00#8 := by cases body <;> rfl
  rw [exec_request row, State.whileRunning_takes takes, refusal, ← id]
  exact congrArg _ (s.joinReply_begin _)

/-- Settles O20: each act tries the checks in their order, each by a decoder that answers exactly in the ranges of its fields. -/
theorem requestChecksAnswerFirstFailure : Obligations.RequestChecksAnswerFirstFailure := by
  intro s c kind body row takes answer
  have begun : s.beginRequest.params = s.params ∧ s.beginRequest.table = s.table := by
    rw [s.beginRequest_eq]
    exact ⟨rfl, rfl⟩
  have judged := actByKind_failure s.beginRequest kind body
  rw [begun.1] at judged
  obtain ⟨failure, failed, refusal⟩ | ⟨passed, unchecked, found⟩ := judged
  · refine ⟨fun status first => ?_, fun passed => by simp [passed] at failed⟩
    obtain rfl := Option.some.inj (failed.symm.trans first)
    exact exec_request_refused row takes refusal
  · refine ⟨fun status failed => by simp [passed] at failed, fun _ => ⟨?answered, fun keyed absent => ?noRecord⟩⟩
    case answered =>
      rw [exec_request row, State.whileRunning_takes takes]
      refine ⟨_, (actByKind kind body s.beginRequest).reply kind body, rfl, by simp [State.joinReply], rfl, ?_, unchecked⟩
      cases body <;> rfl
    case noRecord =>
      obtain ⟨key, act, named, onRecord⟩ := found keyed
      refine exec_request_refused row takes (onRecord.trans (State.onRecord_absent named ?_ act))
      rwa [begun.2]

end Sys2Proof.Machine
end

section
/-! The encoding of a CORRECTION (O60): the fields of its body, and that the status of a sound record tells whether the answer carries
values. -/

namespace Sys2Proof.Machine

/-! ## The body of a CORRECTION (R201) -/

theorem Values.bytes_length (v : Values) : v.bytes.length = 8 := rfl

theorem Correction.flags_fields (c : Correction) :
    c.flags.getLsbD 0 = c.aliased ∧ c.flags.getLsbD 1 = c.created ∧ c.flags < 0x04#8 := by
  rw [Correction.flags]
  cases c.aliased <;> cases c.created <;> decide

theorem Correction.body_of_none {c : Correction} (bare : c.values = none) :
    c.body = [byte c.tag.val, c.status.code, c.flags, c.generation] := by
  simp [Correction.body, bare]

theorem Correction.body_of_some {c : Correction} {v : Values} (carried : c.values = some v) :
    c.body = [byte c.tag.val, c.status.code, c.flags, c.generation] ++ v.bytes := by
  simp [Correction.body, carried]

/-! ## When an answer carries values (R12, R121) -/

/-- Of the statuses of a record's state, those that serve are HIT, HIT_DUE and HIT_SUSPECT, with codes below 03h. -/
theorem RecState.lookupStatus_code_lt_iff (st : RecState) : st.lookupStatus.code < 0x03#8 ↔ st.serves = true := by
  cases st <;> decide

theorem Record.Sound.held_of_serves {r : Record} (sound : r.Sound) (serves : r.state.serves = true) : r.held ≠ none := by
  obtain ⟨-, present, -, -⟩ := sound
  obtain valid | due | suspect := Record.serves_iff.1 serves
  · exact present (.inl valid)
  · exact present (.inr (.inl due))
  · exact present (.inr (.inr (.inl suspect)))

theorem recordAnswer_values_ne_none_iff {r : Record} (sound : r.Sound) (tag : Fin 4) (aliased created : Bool) :
    (recordAnswer tag r aliased created).values ≠ none ↔ r.state.serves = true := by
  by_cases serves : r.state.serves = true
  · have held := sound.held_of_serves serves
    simp [recordAnswer, serves, held]
  · simp [recordAnswer, serves]

/-- Settles O60: the body follows the values it carries, and a sound record holds values in every state that serves. -/
theorem correctionEncodesAnswer : Obligations.CorrectionEncodesAnswer := by
  refine ⟨fun c => ⟨c.flags, ?body⟩, fun tag r aliased created sound => ⟨?carries, rfl, rfl⟩,
    fun _ _ _ => ⟨rfl, rfl, rfl, rfl⟩, rfl⟩
  case body =>
    obtain ⟨aliased, created, clear⟩ := c.flags_fields
    rcases carried : c.values with _ | v
    · rw [Correction.body_of_none carried]
      exact ⟨rfl, aliased, created, clear, rfl⟩
    · rw [Correction.body_of_some carried]
      exact ⟨rfl, aliased, created, clear, by simp [v.bytes_length]⟩
  case carries =>
    exact (recordAnswer_values_ne_none_iff sound tag aliased created).trans r.state.lookupStatus_code_lt_iff.symm

end Sys2Proof.Machine
end

section
/-! One step by the shape of the queue (O1): a waiting command runs on the queue's rest, and an empty queue idles. -/

namespace Sys2Proof.Machine

theorem step_of_pending_nil {s : State} (idle : s.pending = []) : step s = .next s := by
  simp only [step, idle]

theorem step_of_pending_cons {s : State} {c : Instr} {rest : List Instr} (front : s.pending = c :: rest) :
    step s = exec c { s with pending := rest } := by
  simp only [step, front]

/-- Settles O1: the equation of `step` for each shape of the queue; the queue's rest replaces the whole queue. -/
theorem stepRunsFrontCommand : Obligations.StepRunsFrontCommand :=
  ⟨fun _ _ _ => step_of_pending_cons rfl, fun _ => step_of_pending_nil⟩

end Sys2Proof.Machine
end

section
/-! The state after reset: every invariant holds of it (O3), POWER_ON_RESET gives it, and RST_N low holds the part in its state (O12).
The table's form stays through every step (O4). -/

namespace Sys2Proof.Machine

/-- Settles O4: every claim keeps the table's form, so every step does. -/
theorem tableStaysOrderedWithDistinctKeys : Obligations.TableStaysOrderedWithDistinctKeys :=
  fun _ _ ok stepped => tableOk_kept.step ok stepped

/-! ## The reset state (R44, R49, R82, R115, R136, R161, R175, R189) -/

theorem State.reset_link (l : LinkId) : State.reset.link l = Link.reset l := by fin_cases l <;> rfl

/-- No record takes a point, and all are free. -/
theorem State.reset_poolOk : State.reset.PoolOk := ⟨tableOk_kept.clear rfl rfl rfl rfl, rfl⟩

theorem HostPort.reset_outboundOk : HostPort.reset.OutboundOk := by decide

theorem HostPort.reset_inboundOk : HostPort.reset.InboundOk := ⟨rfl, trivial⟩

/-- Settles O3: the reset state has no record, entry, sweep, message or tag, and its parameters are the defaults. -/
theorem resetIsSafe : Obligations.ResetIsSafe :=
  ⟨State.reset_poolOk, (allRecords_kept Record.sound_lasting).clear rfl rfl rfl rfl,
    State.IntervalsOk.of_empty rfl Params.defaults_cadenceOk, HostPort.reset_outboundOk, HostPort.reset_inboundOk,
    State.refreshOk_iff_coherent.2 (coherent_kept.clear rfl rfl rfl rfl), State.Halted.reset.sweepsOk, State.TagsOk.reset⟩

/-! ## RST_N low (R175) -/

/-- While RST_N is low, only the release acts (log 6). -/
theorem exec_of_low {s : State} (low : s.rstN = false) {c : Instr} (held : ∀ csLow, c ≠ .powerOnReset csLow) :
    exec c s = .next s := by
  cases c with
  | powerOnReset csLow => exact absurd rfl (held csLow)
  | rstNAsserted =>
    have still : s.withRstN false = s := by rw [State.withRstN, ← low]
    exact congrArg Host.Outcome.next still
  | _ => exact whileRunning_of_low low

/-- Settles O12: the release gives the reset state but for the model's own fields, and the low level holds the part. -/
theorem resetPinStartsAndHoldsPart : Obligations.ResetPinStartsAndHoldsPart := by
  refine ⟨fun csLow s => ⟨_, rfl, ?fresh⟩, fun s => ⟨rfl, rfl, rfl, fun c held => exec_of_low rfl held⟩⟩
  exact ⟨rfl, rfl, rfl, rfl, rfl, rfl, rfl, fun _ => Vector.getElem_replicate _, State.reset_link, rfl, rfl, rfl, rfl, rfl, rfl,
    rfl, rfl, fun _ => Vector.getElem_replicate _, rfl, fun _ => Vector.getElem_replicate _, rfl, rfl, rfl⟩

end Sys2Proof.Machine
end

section
/-! READ and STATUS, which only report (O25), and RETIRE of a record that is not under sweep (O26). -/

namespace Sys2Proof.Machine

/-! ## READ (R41, R181) -/

theorem actRead_holds {s : State} {slot : Nat} {r : Record} (holds : s.Holds r.key slot r) (id : Byte) :
    actRead (keyBody id r.key) s = s.accept (s.image slot r) := by
  have at₁ : keyAt? (keyBody id r.key) 1 = some r.key := keyOf?_bytes r.key
  rw [actRead, State.keyRequest, at₁]
  exact State.onRecord_holds holds _

/-- The optional parts of the image, present exactly when the record has them (10.3). -/
theorem State.image_eq (s : State) (slot : Nat) (r : Record) :
    s.image slot r =
      bytes2 slot ++ r.key.bytes ++ [r.state.code, r.policy.code, switchCode r.pin, r.presentByte, r.generation]
        ++ bytes2 r.age ++ bytes2 r.interval
        ++ [byte r.streak, byte r.failCount, r.standing.code, s.causeByte r.standing, r.standing.detailByte]
        ++ bytes4 r.lastUse
        ++ (r.held.map fun h => h.values.bytes ++ [h.origin.code]).getD []
        ++ (r.profile.map fun p =>
            [byte p.level.val, byte p.points.length]
              ++ p.points.flatMap fun x => bytes2 x.magnitude ++ bytes2 x.phase).getD [] := by
  rw [State.image]
  cases r.held <;> cases r.profile <;> rfl

theorem Record.presentByte_bits (r : Record) :
    r.presentByte.getLsbD 0 = r.held.isSome ∧ r.presentByte.getLsbD 1 = r.profile.isSome ∧ r.presentByte < 0x04#8 := by
  rw [Record.presentByte]
  generalize r.held.isSome = values
  generalize r.profile.isSome = points
  revert values points
  decide

/-- A SWEEPING record's cause is the one that its engine holds (10.3). -/
theorem State.causeByte_sweeping {s : State} {e : EngineId} {w : Sweep} (run : s.sweep e = some w) :
    s.causeByte (.sweeping e) = w.cause.code := by
  simp only [State.causeByte, run]

/-! ## STATUS (R43, R196, R199) -/

theorem Table.countState_eq (t : Table) (st : RecState) :
    Table.countState t st = (t.filter fun e => e.2.state == st).length := List.countP_eq_length_filter

theorem engineStatusBytes_eq :
    engineStatusBytes = fun w =>
      match w with
      | none => [0x00#8, 0xFF#8, 0xFF#8, 0xFF#8, 0xFF#8]
      | some w => (if w.mode = .measure then 0x01#8 else 0x02#8) :: w.key.bytes := by
  funext w
  rcases w with _ | w
  · rfl
  · cases mode : w.mode <;> simp [engineStatusBytes, engineStateCode, mode]

/-- The report part by part: records, points and time, queue, engines, links, revision (R199). -/
theorem State.statusReport_eq (s : State) :
    s.statusReport =
      bytes2 s.table.length
        ++ ([RecState.pending, .valid, .due, .suspect, .stale, .faulted].flatMap fun st =>
            bytes2 (s.table.filter fun e => e.2.state == st).length)
        ++ bytes2 s.poolFree ++ bytes4 s.epochCount ++ [byte s.queue.length, byte s.queue.prio.length]
        ++ [s.se0, s.se1].flatMap engineStatusBytes
        ++ ([0, 1, 2, 3].map fun l : LinkId => (s.link l).state.code) ++ [0x01#8] := by
  simp [State.statusReport, Table.countState_eq]

/-- Settles O25: both acts answer from the state as it is, which leaves the bytes of the two layouts to compare. -/
theorem readAndStatusReport : Obligations.ReadAndStatusReport := by
  refine ⟨fun s id slot r takes holds => ?read, fun s id takes => ?status⟩
  case read =>
    have answered := State.whileRunning_takes_quiet (kind := kindRead) (act := actRead) (t := s) (status := .ok)
      (payload := s.image slot r) takes fun host => actRead_holds (s := s.withHost host) holds id
    rw [State.image_eq] at answered
    refine ⟨s.causeByte r.standing, r.standing.detailByte, r.presentByte, answered, r.presentByte_bits, ?queued, ?sweeping, ?retry,
      ?idle⟩
    case queued => rintro c (standing | standing) <;> rw [standing] <;> exact ⟨rfl, rfl⟩
    case sweeping =>
      intro e w standing run
      rw [standing]
      exact ⟨State.causeByte_sweeping run, rfl⟩
    case retry => intro n standing; rw [standing]; exact ⟨rfl, rfl⟩
    case idle => intro standing; rw [standing]; exact ⟨rfl, rfl⟩
  case status =>
    have answered := State.whileRunning_takes_quiet (kind := kindStatus) (act := actStatus) (t := s) (status := .ok)
      (payload := s.statusReport) takes fun host => rfl
    rw [State.statusReport_eq, engineStatusBytes_eq] at answered
    exact answered

/-! ## RETIRE (R34, R182) -/

/-- Settles O26: the record only leaves its queue entry before it is removed, so no notice joins ahead of the reply. -/
theorem retireRemovesRecord : Obligations.RetireRemovesRecord := by
  intro s id slot r takes holds unswept
  have answered := State.whileRunning_takes_quiet (kind := kindRetire) (act := actRetire) (status := .ok)
    (t := (s.withQueue (s.queueWithout slot r)).removeRecord slot r) (payload := bytes2 slot) takes fun host => by
      rw [actRetire_holds (s := s.withHost host) holds, State.withdraw_unswept unswept]
      rfl
  exact ⟨_, answered, Table.differsAt_erase s.table slot, rfl, rfl, rfl, rfl⟩

end Sys2Proof.Machine
end

section
/-! EPOCH_EXPIRY (O43): the two readings of an expiry at one record are the same, and so are the notices and the two passes. -/

namespace Sys2Proof.Machine

/-! ## One record (R51 to R55) -/

/-- The age-driven state is the one of the tables of R52 and R53. -/
theorem Record.ageDriven_state (r : Record) (staleLimit : Nat) :
    (r.ageDriven staleLimit).state = r.expiryState staleLimit r.age := by
  cases policy : r.policy with
  | fixed => simp [Record.ageDriven, Record.expiryState, policy]
  | auto => cases state : r.state <;> simp [Record.ageDriven, Record.agedState, Record.expiryState, policy, state]

/-- A record that leaves VALID seeks a sweep if it stood IDLE (R52). -/
def Record.agedStanding (r : Record) (state : RecState) : Standing :=
  if r.state = .valid ∧ state ≠ .valid ∧ r.standing = .idle then .waiting .scheduled else r.standing

/-- A FIXED record does not move with age, and an AUTO one takes its state and standing. -/
theorem Record.ageDriven_eq (r : Record) (staleLimit : Nat) :
    r.ageDriven staleLimit =
      { r with
        state := r.expiryState staleLimit r.age, standing := r.agedStanding (r.expiryState staleLimit r.age) } := by
  rw [← Record.ageDriven_state]
  obtain fixed | auto : r.policy = .fixed ∨ r.policy = .auto := by cases r.policy <;> simp
  · have still : r.ageDriven staleLimit = r := by simp only [Record.ageDriven, fixed]
    rw [still, Record.agedStanding, if_neg fun moved => moved.2.1 moved.1]
  · simp only [Record.ageDriven, auto, Record.agedStanding]

theorem Record.afterExpiry_standing (r : Record) (staleLimit : Nat) :
    (r.afterExpiry staleLimit).standing = (r.agedStanding (r.afterExpiry staleLimit).state).countedDown := by
  cases standing : r.standing with
  | idle =>
    simp only [Record.agedStanding, Record.afterExpiry, standing, and_true]
    rw [apply_ite Standing.countedDown]
    rfl
  | _ => simp [Record.agedStanding, Record.afterExpiry, standing, Standing.countedDown]

/-- Ageing, the age-driven change and the countdown are the tables of R52, R53 and R55. -/
theorem Record.expired_eq (r : Record) (staleLimit : Nat) : r.expired staleLimit = r.afterExpiry staleLimit := by
  rw [Record.expired, Record.ageDriven_eq]
  exact congrArg (fun st => ({ r.afterExpiry staleLimit with standing := st } : Record)) (r.afterExpiry_standing staleLimit).symm

/-! ## The notices and the passes (R54, R56) -/

theorem staleNotice_eq (staleLimit : Nat) (e : Nat × Record) :
    staleNotice staleLimit e =
      if e.2.state != .stale && (e.2.afterExpiry staleLimit).state == .stale then
        some (.staleEntered e.2.key e.1 e.2.state (e.2.afterExpiry staleLimit).age)
      else none := by
  rw [← Record.expired_eq]
  simp [staleNotice, Record.expired]

theorem staleNotices_eq (staleLimit : Nat) (t : Table) :
    t.filterMap (staleNotice staleLimit) =
      (t.filter fun e => e.2.state != .stale && (e.2.afterExpiry staleLimit).state == .stale).map fun e =>
        .staleEntered e.2.key e.1 e.2.state (e.2.afterExpiry staleLimit).age := by
  rw [← List.filterMap_eq_map, List.filterMap_filter]
  exact List.filterMap_congr fun e _ => staleNotice_eq staleLimit e

theorem State.emitAll_host (s : State) (ns : List Notice) : (s.emitAll ns).host = s.host.emitted s.params.noticeMask ns := by
  induction ns generalizing s with
  | nil => rfl
  | cons n rest ih => simp [State.emitAll, ih, State.emit_host, HostPort.emitted_emitted]

theorem waitingSlots_true (t : Table) :
    waitingSlots t true = (t.filter fun e => e.2.standing == .waiting .first || e.2.standing == .waiting .requested).map (·.1) := by
  refine congrArg (List.map _) (List.filter_congr fun e _ => ?_)
  dsimp only
  cases e.2.standing with
  | waiting c => cases c <;> rfl
  | _ => rfl

theorem waitingSlots_false (t : Table) :
    waitingSlots t false = (t.filter fun e => e.2.standing == .waiting .scheduled || e.2.standing == .waiting .retry).map (·.1) := by
  refine congrArg (List.map _) (List.filter_congr fun e _ => ?_)
  dsimp only
  cases e.2.standing with
  | waiting c => cases c <;> rfl
  | _ => rfl

/-- Settles O43: the state before the offers is the one in which the part has aged. -/
theorem epochExpiryAgesThenOffers : Obligations.EpochExpiryAgesThenOffers := by
  intro s running
  refine ⟨s.startEpoch.ageAll, ?count, ?epoch, ?table, ?host, ?frame, ?offers⟩
  case count => simp [State.ageAll, nextEpochCount]
  case epoch => simp [State.startEpoch]
  case table => simp [State.ageAll, Record.expired_eq]
  case host =>
    have host : s.startEpoch.ageAll.host =
        s.host.emitted s.params.noticeMask (s.table.filterMap (staleNotice s.params.staleLimit)) := by
      simp [State.ageAll, State.emitAll_host]
    rw [host, staleNotices_eq]
  case frame => apply State.eq_of_fields <;> simp
  case offers =>
    rw [← waitingSlots_true, ← waitingSlots_false]
    exact whileRunning_of_high running

end Sys2Proof.Machine
end

section
/-! Every command answers a next state and keeps the waiting commands (O2): a request by its kind, any other command by its row. -/

namespace Sys2Proof.Machine

/-! ## Requests -/

section
variable (s : State)

theorem State.onRecord_pending {key : Key} {act : Nat → Record → Answer}
    (same : ∀ slot r, (act slot r).state.pending = s.pending) : (s.onRecord key act).state.pending = s.pending := by
  simp only [State.onRecord]
  split
  next => rfl
  next slot r _ => exact same slot r

theorem State.keyRequest_pending {body : List Byte} {act : Nat → Record → Answer}
    (same : ∀ slot r, (act slot r).state.pending = s.pending) : (s.keyRequest body act).state.pending = s.pending := by
  simp only [State.keyRequest]
  (repeat' split) <;> simp [s.onRecord_pending same]

/-- A marking pass by a marking that changes at most table, queue and what is due. -/
theorem State.markPass_pending {mark : State → Nat → Record → State × Option RefreshAction}
    (shape : ∀ s slot r, ∃ q t c, (mark s slot r).1 = ((s.withQueue q).withTable t).withConsider c) (slots : List Nat) :
    (s.markPass mark slots).1.pending = s.pending := by
  obtain ⟨q, t, c, passed⟩ := State.markPass_frame mark shape slots s
  simp [passed]

variable (body : List Byte)

@[simp] theorem actCreate_pending : (actCreate body s).state.pending = s.pending := by
  simp only [actCreate, State.createClaim]
  (repeat' split) <;> simp

@[simp] theorem actLoad_pending : (actLoad body s).state.pending = s.pending := by
  simp only [actLoad]
  (repeat' split) <;> simp [State.onRecord_pending]

@[simp] theorem actRetire_pending : (actRetire body s).state.pending = s.pending := s.keyRequest_pending (by simp)

@[simp] theorem actSetPolicy_pending : (actSetPolicy body s).state.pending = s.pending := by
  simp only [actSetPolicy]
  (repeat' split) <;> simp [State.onRecord_pending]

/-- A REFRESH is refused, or it makes its claim at one record (R184). -/
theorem actRefresh_state : (actRefresh body s).state = s ∨ ∃ slot r, (actRefresh body s).state = (s.refreshClaim slot r).1 := by
  simp only [actRefresh, State.keyRequest, State.onRecord]
  split
  next => exact .inl rfl
  split
  next => exact .inl rfl
  split
  next => exact .inl rfl
  next slot r _ =>
    split
    next => exact .inl rfl
    split
    next => exact .inl rfl
    split
    next found => exact .inr ⟨slot, r, by rw [found]⟩
    next => exact .inl rfl

@[simp] theorem actRefresh_pending : (actRefresh body s).state.pending = s.pending := by
  obtain same | ⟨slot, r, claimed⟩ := actRefresh_state s body
  · rw [same]
  · simp [claimed]

@[simp] theorem actRefreshScope_pending : (actRefreshScope body s).state.pending = s.pending := by
  simp only [actRefreshScope]
  (repeat' split) <;> simp [State.markPass_pending _ (State.mark_shape .host)]

@[simp] theorem actTonePlanSet_pending : (actTonePlanSet body s).state.pending = s.pending := by
  simp only [actTonePlanSet]
  (repeat' split) <;> simp [State.markPass_pending _ State.markAlert_shape]

@[simp] theorem actLevelSet_pending : (actLevelSet body s).state.pending = s.pending := by
  simp only [actLevelSet]
  (repeat' split) <;> simp

@[simp] theorem actConfigSet_pending : (actConfigSet body s).state.pending = s.pending := by
  simp only [actConfigSet]
  (repeat' split) <;> simp

@[simp] theorem actAliasSet_pending : (actAliasSet body s).state.pending = s.pending := by
  simp only [actAliasSet]
  (repeat' split) <;> simp

@[simp] theorem actAliasClear_pending : (actAliasClear body s).state.pending = s.pending := by
  simp only [actAliasClear, State.indexRequest]
  (repeat' split) <;> simp

@[simp] theorem actLinkControl_pending : (actLinkControl body s).state.pending = s.pending := by
  simp only [actLinkControl]
  (repeat' split) <;> simp

@[simp] theorem actSoftReset_pending : (actSoftReset body s).state.pending = s.pending := by
  simp only [actSoftReset]
  (repeat' split) <;> simp

@[simp] theorem actByKind_pending (kind : Byte) : (actByKind kind body s).state.pending = s.pending := by
  simp only [actByKind]
  split
  next act found =>
    simp only [actOf?] at found
    split at found <;> cases found
    all_goals
      simp [actRead_state, actScan_state, actAliasRead_state, actTonePlanRead_state, actLevelRead_state, actConfigGet_state,
        actStatus_state]
  next => rfl

theorem State.takeRequest_pending (kind : Byte) : (s.takeRequest kind body (actByKind kind)).pending = s.pending := by
  simp only [State.takeRequest]
  split <;> simp

/-! ## Frames -/

theorem State.arrive_pending (l : LinkId) (kind : Byte) {act : State → State} (same : ∀ u, (act u).pending = u.pending) :
    (s.arrive l kind body act).pending = s.pending := by
  simp only [State.arrive]
  split <;> simp [same]

theorem State.arriveUp_pending (l : LinkId) (kind : Byte) {act : State → State} (same : ∀ u, (act u).pending = u.pending) :
    (s.arrive l kind body fun u => u.whenUp l (act u)).pending = s.pending := by
  refine s.arrive_pending body l kind fun u => ?_
  simp only [State.whenUp]
  split
  · exact same u
  · rfl

end

/-! ## The commands -/

theorem whileRunning_pending {s s' : State} (same : s'.pending = s.pending) :
    ∃ t, whileRunning s s' = .next t ∧ t.pending = s.pending := by
  refine ⟨_, rfl, ?_⟩
  split
  · exact same
  · rfl

/-- Settles O2: `whileRunning` answers a next state, and no claim of a command reaches the queue. -/
theorem everyCommandAnswersAndKeepsQueue : Obligations.EveryCommandAnswersAndKeepsQueue := by
  intro c s
  cases row : requestOf c with
  | some request =>
    rw [exec_request (kind := request.1) (body := request.2) row]
    exact whileRunning_pending (s.takeRequest_pending request.2 request.1)
  | none =>
    cases c with
    | powerOnReset | rstNAsserted => exact ⟨_, rfl, rfl⟩
    | requestWrite | replyRead | portStatus | commandByteUnknown | epochExpiry | retryCountdownExpiry | dispatch
    | outboundFrameSent => exact whileRunning_pending (by simp)
    | partnerCheck | requestTimerExpiry | waitTimerExpiry | helloTimerExpiry | frameCheckFailure | incompleteFrame =>
      refine whileRunning_pending ?_
      (repeat' split) <;> simp
    | helloAck | unknownFrameKind => exact whileRunning_pending (s.arrive_pending _ _ _ (by simp))
    | lookup | calResult | calDeclined | driftAlert | goodbye =>
      exact whileRunning_pending (s.arriveUp_pending _ _ _ (by simp))
    | _ => cases row

end Sys2Proof.Machine
end

section
/-! The points of the records' profiles, and the operations that move none (R38): only a commit, a LOAD, a removal and a reset do. -/

namespace Sys2Proof.Machine

/-! ## The table (R38) -/

theorem Table.points_append (t u : Table) : (t ++ u : Table).points = t.points + u.points := by simp [Table.points]

theorem Table.points_cons (e : Nat × Record) (t : Table) : Table.points (e :: t) = e.2.profilePoints + t.points := by
  simp [Table.points]

theorem Record.profilePoints_of_none {r : Record} (none' : r.profile = none) : r.profilePoints = 0 := by
  simp [Record.profilePoints, none']

theorem Record.profilePoints_of_some {r : Record} {p : Profile} (some' : r.profile = some p) :
    r.profilePoints = p.points.length := by
  simp [Record.profilePoints, some']

theorem Record.profilePoints_congr {r r' : Record} (same : r'.profile = r.profile) : r'.profilePoints = r.profilePoints := by
  rw [Record.profilePoints, same, Record.profilePoints]

@[simp] theorem Table.points_modify (t : Table) (slot : Nat) {f : Record → Record} (keeps : ∀ r, (f r).profile = r.profile) :
    (Table.modify t slot f).points = t.points := by
  rw [Table.points, Table.modify, List.map_map]
  refine congrArg List.sum (List.map_congr_left fun e _ => ?_)
  by_cases h : e.1 = slot <;> simp [h, Record.profilePoints_congr (keeps e.2)]

/-- A new record without a profile takes no point. -/
theorem Table.points_put {t : Table} {slot : Nat} (free : Table.get t slot = none) {r : Record} (none' : r.profile = none) :
    (Table.put t slot r).points = t.points := by
  have zero := Record.profilePoints_of_none none'
  induction t with
  | nil => simp [Table.put, Table.points_cons, zero]
  | cons e rest ih =>
    obtain ⟨n, x⟩ := e
    rw [Table.get_cons] at free
    simp only [Table.put]
    split
    · simp [Table.points_cons, zero]
    · split
      next taken => simp [taken] at free
      next other => simp [Table.points_cons, ih (by simpa [Ne.symm other] using free)]

/-- An ordered table around the record that a slot holds: no other entry is of this slot. -/
theorem Table.split_of_mem {t : Table} (order : t.Pairwise fun a b => a.1 < b.1) {slot : Nat} {r : Record} (hr : (slot, r) ∈ t) :
    ∃ before after : Table, t = before ++ (slot, r) :: after ∧ ∀ e ∈ before ++ after, e.1 ≠ slot := by
  obtain ⟨before, after, rfl⟩ := List.append_of_mem hr
  obtain ⟨-, above, below⟩ := List.pairwise_append.1 order
  refine ⟨before, after, rfl, fun e he => ?_⟩
  rcases List.mem_append.1 he with lower | higher
  · exact (below e lower _ List.mem_cons_self).ne
  · exact ((List.pairwise_cons.1 above).1 e higher).ne'

theorem Table.modify_of_forall_ne {t : Table} {slot : Nat} (other : ∀ e ∈ t, e.1 ≠ slot) (f : Record → Record) :
    Table.modify t slot f = t :=
  (List.map_congr_left fun e he => if_neg (other e he)).trans (List.map_id' t)

/-- A change of one record moves the points between its old profile and its new one. -/
theorem Table.points_modify_mem {t : Table} (order : t.Pairwise fun a b => a.1 < b.1) {slot : Nat} {r : Record} (hr : (slot, r) ∈ t)
    (f : Record → Record) :
    (Table.modify t slot f).points + r.profilePoints = t.points + (f r).profilePoints := by
  obtain ⟨before, after, rfl, other⟩ := Table.split_of_mem order hr
  have lower := Table.modify_of_forall_ne (fun e he => other e (List.mem_append_left _ he)) f
  have higher := Table.modify_of_forall_ne (fun e he => other e (List.mem_append_right _ he)) f
  have changed : Table.modify (before ++ (slot, r) :: after) slot f = before ++ (slot, f r) :: after := by
    rw [Table.modify, List.map_append, List.map_cons, if_pos rfl]
    exact congrArg₂ _ lower (congrArg _ higher)
  rw [changed]
  simp only [Table.points_append, Table.points_cons]
  omega

/-- The points of a record that is removed leave the table. -/
theorem Table.points_erase_mem {t : Table} (order : t.Pairwise fun a b => a.1 < b.1) {slot : Nat} {r : Record} (hr : (slot, r) ∈ t) :
    (Table.erase t slot).points + r.profilePoints = t.points := by
  obtain ⟨before, after, rfl, other⟩ := Table.split_of_mem order hr
  have rest : Table.erase (before ++ (slot, r) :: after) slot = before ++ after := by
    have stays : (before ++ after).filter (fun e => e.1 != slot) = before ++ after :=
      List.filter_eq_self.2 fun e he => bne_iff_ne.2 (other e he)
    simpa [Table.erase] using stays
  rw [rest]
  simp only [Table.points_append, Table.points_cons]
  omega

/-! ## Standings and the queue -/

@[simp] theorem State.setStanding_points (s : State) (slot : Nat) (st : Standing) :
    (s.setStanding slot st).table.points = s.table.points := by
  simp [State.setStanding]

@[simp] theorem State.displace_points (s : State) : s.displace.table.points = s.table.points := by
  simp only [State.displace]
  split <;> simp

@[simp] theorem State.placeEntry_points (s : State) (e : QEntry) : (s.placeEntry e).table.points = s.table.points := by
  simp [State.placeEntry]

@[simp] theorem State.offer_points (s : State) (slot : Nat) (key : Key) (cause : Cause) :
    (s.offer slot key cause).1.table.points = s.table.points := by
  simp only [State.offer, State.join]
  (repeat' split) <;> simp

@[simp] theorem State.waitAndOffer_points (s : State) (slot : Nat) (key : Key) (cause : Cause) :
    (s.waitAndOffer slot key cause).1.table.points = s.table.points := by
  simp [State.waitAndOffer]

@[simp] theorem State.mark_points (s : State) (m : Marker) (slot : Nat) (r : Record) :
    (s.mark m slot r).1.table.points = s.table.points := by
  obtain e | ⟨c, -, e⟩ | ⟨-, c, e⟩ := s.mark_cases m slot r <;> simp [e, State.promote]

@[simp] theorem State.markAlert_points (s : State) (slot : Nat) (r : Record) :
    (s.markAlert slot r).1.table.points = s.table.points := by
  simp [State.markAlert_eq, Record.alerted]

/-- A marking pass by a marking that moves no point. -/
theorem State.markPass_points {mark : State → Nat → Record → State × Option RefreshAction}
    (same : ∀ s slot r, (mark s slot r).1.table.points = s.table.points) (s : State) (slots : List Nat) :
    (s.markPass mark slots).1.table.points = s.table.points := by
  induction slots generalizing s with
  | nil => rfl
  | cons slot rest ih =>
    simp only [State.markPass]
    split
    · exact ih s
    · exact (ih _).trans (same s slot _)

/-- A marking pass by a marking that changes at most table, queue and what is due. -/
theorem State.markPass_poolFree {mark : State → Nat → Record → State × Option RefreshAction}
    (shape : ∀ s slot r, ∃ q t c, (mark s slot r).1 = ((s.withQueue q).withTable t).withConsider c) (s : State) (slots : List Nat) :
    (s.markPass mark slots).1.poolFree = s.poolFree := by
  obtain ⟨q, t, c, passed⟩ := State.markPass_frame mark shape slots s
  simp [passed]

@[simp] theorem State.driftAlert_points (s : State) (l : LinkId) (channels tones : Byte) :
    (s.driftAlert l channels tones).table.points = s.table.points := State.markPass_points State.markAlert_points s _

@[simp] theorem State.offerPass_points (s : State) (slots : List Nat) : (s.offerPass slots).table.points = s.table.points := by
  induction slots generalizing s with
  | nil => rfl
  | cons slot rest ih =>
    simp only [State.offerPass]
    (repeat' split) <;> simp [ih]

@[simp] theorem State.offerDispatch_points (s : State) (e : EngineId) :
    (s.offerDispatch e).table.points = s.table.points := by
  simp only [State.offerDispatch]
  (repeat' split) <;> simp [State.dispatchEntry]

@[simp] theorem State.waitAll_points (s : State) (entries : List QEntry) :
    (s.waitAll entries).table.points = s.table.points := by
  induction entries generalizing s with
  | nil => rfl
  | cons e rest ih => simp [State.waitAll, ih]

/-! ## Sweeps that end without a commit, and links that leave their states -/

@[simp] theorem State.takeFailure_points (s : State) (slot : Nat) (r : Record) (reason : FailReason) :
    (s.takeFailure slot r reason).table.points = s.table.points := by
  simp only [State.takeFailure]
  (repeat' split) <;> simp

@[simp] theorem State.endFailed_points (s : State) (e : EngineId) (w : Sweep) (reason : FailReason) :
    (s.endFailed e w reason).table.points = s.table.points := by
  simp only [State.endFailed]
  split <;> simp

@[simp] theorem State.leaveUp_points (s : State) (l : LinkId) (reason : LinkReason) :
    (s.leaveUp l reason).table.points = s.table.points := by
  simp only [State.leaveUp]
  (repeat' split) <;> simp [State.endLinkFailed]

@[simp] theorem State.protocolFault_points (s : State) (l : LinkId) : (s.protocolFault l).table.points = s.table.points := by
  simp only [State.protocolFault]
  split <;> simp

@[simp] theorem State.requestTimeout_points (s : State) (e : EngineId) (w : Sweep) :
    (s.requestTimeout e w).table.points = s.table.points := by
  simp only [State.requestTimeout]
  (repeat' split) <;> simp

@[simp] theorem State.checkPartner_points (s : State) (e : EngineId) (w : Sweep) :
    (s.checkPartner e w).table.points = s.table.points := by
  simp only [State.checkPartner]
  split <;> simp

@[simp] theorem State.calDeclined_points (s : State) (l : LinkId) (number : Byte) :
    (s.calDeclined l number).table.points = s.table.points := by
  simp only [State.calDeclined, State.actOnDecline]
  (repeat' split) <;> simp

@[simp] theorem State.helloAck_points (s : State) (l : LinkId) (body : List Byte) :
    (s.helloAck l body).table.points = s.table.points := by
  simp only [State.helloAck]
  (repeat' split) <;> simp

@[simp] theorem State.helloAck_poolFree (s : State) (l : LinkId) (body : List Byte) : (s.helloAck l body).poolFree = s.poolFree := by
  simp only [State.helloAck]
  (repeat' split) <;> simp

@[simp] theorem State.disableLink_points (s : State) (l : LinkId) : (s.disableLink l).table.points = s.table.points := by
  simp only [State.disableLink, State.dropLinkEntries, State.abortForDisable]
  (repeat' split) <;> simp

/-! ## Epochs and requests -/

@[simp] theorem State.ageAll_points (s : State) : s.ageAll.table.points = s.table.points := by
  have aged (r : Record) : (r.expired s.params.staleLimit).profilePoints = r.profilePoints :=
    Record.profilePoints_congr (by rw [Record.expired_eq]; rfl)
  simp [State.ageAll, Table.points, Function.comp_def, aged]

@[simp] theorem State.setPolicyClaim_points (s : State) (slot : Nat) (r : Record) (policy : Policy) (pin : Bool) :
    (s.setPolicyClaim slot r policy pin).table.points = s.table.points := by
  simp only [State.setPolicyClaim, State.makeAuto]
  (repeat' split) <;> simp [State.makeFixed]

@[simp] theorem State.refreshClaim_points (s : State) (slot : Nat) (r : Record) :
    (s.refreshClaim slot r).1.table.points = s.table.points := by
  simp only [State.refreshClaim]
  split <;> simp [Record.restarted]

@[simp] theorem State.moveIntervals_points (s : State) (id : ParamId) (v : Nat) :
    (s.moveIntervals id v).table.points = s.table.points := by
  simp [State.moveIntervals_eq, Table.mapInterval, Table.points, Function.comp_def, Record.profilePoints]

@[simp] theorem State.serve_points (s : State) (tag : Fin 4) (slot : Nat) (r : Record) (aliased : Bool) :
    (s.serve tag slot r aliased).1.table.points = s.table.points := by
  simp [State.serve, State.stamp]

end Sys2Proof.Machine
end

section
/-! Free points and the points of the profiles stay 2048 in all (O5): what a profile takes or gives back, the pool gives or takes. -/

namespace Sys2Proof.Machine

/-- The points of the part: those free and those of the profiles (R38). -/
def State.allPoints (s : State) : Nat := s.poolFree + s.table.points

theorem State.poolOk_iff {s : State} : s.PoolOk ↔ s.TableOk ∧ s.allPoints = 2048 := Iff.rfl

/-- Neither the pool nor a profile has changed. -/
theorem State.allPoints_congr {s t : State} (same : t.poolFree = s.poolFree ∧ t.table.points = s.table.points) :
    t.allPoints = s.allPoints := congrArg₂ _ same.1 same.2

theorem State.TableOk.of_table {s t : State} (ok : s.TableOk) (same : t.table = s.table) : t.TableOk := by
  simpa only [State.TableOk, same] using ok

/-! ## Records that come and go -/

theorem State.createRecord_allPoints (s : State) {slot : Nat} (free : Table.get s.table slot = none) {r : Record}
    (none' : r.profile = none) : (s.createRecord slot r).allPoints = s.allPoints := by
  refine State.allPoints_congr ⟨by simp, ?_⟩
  have placed := Table.points_put free none'
  simp only [State.createRecord]
  split <;> simpa using placed

section
variable {s : State} (ok : s.TableOk) {slot : Nat} {r : Record} (hr : (slot, r) ∈ s.table)
include ok hr

theorem State.TableOk.removeRecord_allPoints : (s.removeRecord slot r).allPoints = s.allPoints := by
  have erased := Table.points_erase_mem ok.1 hr
  simp only [State.allPoints, State.removeRecord, State.withTable_poolFree, State.withPool_poolFree, State.withTable_table]
  omega

theorem State.TableOk.retire_allPoints (o : SweepOutcome) : ((s.withdraw slot r o).removeRecord slot r).allPoints = s.allPoints := by
  have kept : (s.withdraw slot r o).TableOk := ok.of_table (by simp)
  rw [kept.removeRecord_allPoints (by simpa using hr)]
  exact State.allPoints_congr (by simp)

theorem State.TableOk.evict_allPoints (newKey : Key) : (s.evict slot r newKey).allPoints = s.allPoints := by
  have kept : (s.withQueue (s.queue.remove slot)).TableOk := ok
  exact (State.allPoints_congr (by simp [State.evict])).trans (kept.removeRecord_allPoints hr)

/-- A change of a record whose points the pool takes or gives. -/
theorem State.TableOk.modify_allPoints {t : State} {f : Record → Record} (table : t.table = Table.modify s.table slot f)
    (pool : t.poolFree + (f r).profilePoints = s.poolFree + r.profilePoints) : t.allPoints = s.allPoints := by
  have moved := Table.points_modify_mem ok.1 hr f
  rw [State.allPoints, State.allPoints, table]
  omega

/-- A LOAD gives the profile back to the pool (R21, R40). -/
theorem State.TableOk.load_allPoints (base : Nat) (v : Values) :
    (((s.withdraw slot r .superseded).freeProfile slot r).modRecord slot (·.loaded base v)).allPoints = s.allPoints := by
  refine ok.modify_allPoints hr (f := fun r => ({ r with profile := none } : Record).loaded base v) ?_ ?_
  · rw [State.loaded_table]
    simp
  · simp [State.freeProfile, Record.loaded, Record.profilePoints]

/-- A commit gives the old profile back and takes the new one where there is room (R39). -/
theorem State.TableOk.takeCommit_allPoints (v : Values) (w : Sweep) : (s.takeCommit slot r v w).allPoints = s.allPoints := by
  refine ok.modify_allPoints hr (f := fun x =>
    { x.committed s.params v with
      profile :=
        if storesProfile w.plan.capture (s.poolFree + r.profilePoints) w.points.length then
          some { level := w.level, points := w.points }
        else none }) rfl ?_
  cases stored : storesProfile w.plan.capture (s.poolFree + r.profilePoints) w.points.length with
  | false =>
    rw [Record.profilePoints_of_none rfl]
    simp [State.takeCommit, stored]
  | true =>
    have room : w.points.length ≤ s.poolFree + r.profilePoints := by
      simp only [storesProfile, Bool.and_eq_true, decide_eq_true_eq] at stored
      exact stored.2
    rw [Record.profilePoints_of_some rfl]
    simpa [State.takeCommit, stored] using Nat.sub_add_cancel room

end

/-! ## Answers of the front end -/

section
variable {s : State} (ok : s.TableOk)
include ok

theorem State.TableOk.endCommitted_allPoints (e : EngineId) (w : Sweep) (v : Values) :
    (s.endCommitted e w v).allPoints = s.allPoints := by
  have cleared : (s.clearEngine e w).allPoints = s.allPoints := State.allPoints_congr (by simp)
  simp only [State.endCommitted]
  split
  next => exact cleared
  next r found =>
    have kept : (s.clearEngine e w).TableOk := ok.of_table (by simp)
    have committed := kept.takeCommit_allPoints (slot := w.slot) (r := r) (by simpa using Table.mem_of_get found) v w
    exact (State.allPoints_congr (by simp)).trans (committed.trans cleared)

theorem State.TableOk.computeAndEnd_allPoints (e : EngineId) (w : Sweep) : (s.computeAndEnd e w).allPoints = s.allPoints := by
  simp only [State.computeAndEnd]
  split
  · exact ok.endCommitted_allPoints e w _
  · exact State.allPoints_congr (by simp)

/-- Only a GOOD point can end in a commit (R93 to R96). -/
theorem State.TableOk.actOnResult_allPoints (e : EngineId) (w : Sweep) (c : Condition) (first second : Word) :
    (s.actOnResult e w c first second).allPoints = s.allPoints := by
  simp only [State.actOnResult]
  split
  next =>
    refine State.allPoints_congr ?_
    cases c <;> simp [State.zeroResult]
  next k _ =>
    cases c with
    | good =>
      simp only [State.pointResult, State.goodPoint]
      (repeat' split)
      · exact State.allPoints_congr (by simp)
      · exact ok.computeAndEnd_allPoints e _
      · exact State.allPoints_congr (by simp)
    | saturated =>
      simp only [State.pointResult, State.saturatedPoint]
      split <;> exact State.allPoints_congr (by simp)
    | invalid => exact State.allPoints_congr (by simp [State.pointResult])

theorem State.TableOk.calResult_allPoints (l : LinkId) (number condition : Byte) (first second : Word) :
    (s.calResult l number condition first second).allPoints = s.allPoints := by
  simp only [State.calResult]
  split
  next => rfl
  next e w _ =>
    have kept : (s.acceptAnswer l e w).TableOk := ok.of_table (by simp)
    exact (kept.actOnResult_allPoints e _ _ first second).trans (State.allPoints_congr (by simp))

/-! ## Lookups -/

theorem State.TableOk.autoCreate_allPoints (tag : Fin 4) (key : Key) : (s.autoCreate tag key).1.allPoints = s.allPoints := by
  have new : (s.autoRecord key).profile = none := rfl
  cases free : Table.lowestFree s.table with
  | some slot =>
    rw [State.autoCreate_free free]
    exact s.createRecord_allPoints (State.lowestFree_some.1 free).2.1 new
  | none =>
    cases found : Table.evictionCandidate s.table with
    | none => rw [State.autoCreate_miss free found]
    | some c =>
      have hc := (Table.evictionCandidate_some found).1
      have vacated := State.evict_lowestFree ok hc (Table.lowestFree_none.1 free) (key := key)
      rw [State.autoCreate_evict free found, State.createRecord_allPoints _ vacated.2.1 new]
      exact ok.evict_allPoints hc key

theorem State.TableOk.answerOwn_allPoints (tag : Fin 4) (key : Key) : (s.answerOwn tag key).1.allPoints = s.allPoints := by
  simp only [State.answerOwn]
  (repeat' split)
  · exact State.allPoints_congr (by simp)
  · exact ok.autoCreate_allPoints tag key
  · rfl

theorem State.TableOk.answerAliased_allPoints (tag : Fin 4) (key : Key) (a : AliasEntry) :
    (s.answerAliased tag key a).1.allPoints = s.allPoints := by
  have served (slot : Nat) (r : Record) (aliased : Bool) : (s.serve tag slot r aliased).1.allPoints = s.allPoints :=
    State.allPoints_congr (by simp)
  simp only [State.answerAliased]
  (repeat' split)
  · exact served _ _ _
  · rfl
  · exact served _ _ _
  · exact served _ _ _
  · exact ok.answerOwn_allPoints tag key

theorem State.TableOk.answerLookup_allPoints (l : LinkId) (tag : Fin 4) (channel tone gain : Byte) :
    (s.answerLookup l tag channel tone gain).1.allPoints = s.allPoints := by
  simp only [State.answerLookup, State.answerKey]
  (repeat' split)
  · exact ok.answerAliased_allPoints tag _ _
  · exact ok.answerOwn_allPoints tag _
  · rfl
  · rfl

theorem State.TableOk.handOver_allPoints (l : LinkId) (tag : Fin 4) (channel tone gain : Byte) :
    (s.handOver l tag channel tone gain).allPoints = s.allPoints := by
  have answered := State.TableOk.answerLookup_allPoints (s := s.withLink l { s.link l with tags := (s.link l).tags ++ [tag] }) ok l tag
    channel tone gain
  exact answered

theorem State.TableOk.lookup_allPoints (l : LinkId) (tag channel tone gain : Byte) :
    (s.lookup l tag channel tone gain).allPoints = s.allPoints := by
  simp only [State.lookup]
  (repeat' split)
  · exact State.allPoints_congr (by simp)
  · exact State.allPoints_congr (by simp)
  · exact ok.handOver_allPoints l _ channel tone gain

/-! ## Frames -/

theorem State.TableOk.takeFrame_allPoints (l : LinkId) (kind : Byte) (body : List Byte) :
    (s.takeFrame l kind body).allPoints = s.allPoints := by
  simp only [State.takeFrame, State.takeUp]
  (repeat' split)
  next => rfl
  next => exact State.allPoints_congr (by simp)
  next => rfl
  next => exact ok.lookup_allPoints l _ _ _ _
  next => exact ok.calResult_allPoints l _ _ _ _
  all_goals exact State.allPoints_congr (by simp)

omit ok in
theorem State.TableOk.arrive_allPoints {act : State → State} (l : LinkId) (kind : Byte) (body : List Byte)
    (same : ∀ {u : State}, u.TableOk → (act u).allPoints = u.allPoints) (ok : s.TableOk) :
    (s.arrive l kind body act).allPoints = s.allPoints := by
  simp only [State.arrive]
  split
  · rfl
  · exact (same (ok.of_table (by simp))).trans (State.allPoints_congr (by simp))

omit ok in
theorem State.TableOk.arriveUp_allPoints {act : State → State} (l : LinkId) (kind : Byte) (body : List Byte)
    (same : ∀ {u : State}, u.TableOk → (act u).allPoints = u.allPoints) (ok : s.TableOk) :
    (s.arrive l kind body fun u => u.whenUp l (act u)).allPoints = s.allPoints := by
  refine ok.arrive_allPoints l kind body fun {u} ok => ?_
  simp only [State.whenUp]
  split
  · exact same ok
  · rfl

end

/-! ## Requests -/

section
variable {s : State}

theorem State.onRecord_allPoints {key : Key} {act : Nat → Record → Answer}
    (same : ∀ slot r, (slot, r) ∈ s.table → (act slot r).state.allPoints = s.allPoints) :
    (s.onRecord key act).state.allPoints = s.allPoints := by
  simp only [State.onRecord]
  split
  next => rfl
  next slot r found => exact same slot r (Table.findKey_some found).1

variable (body : List Byte)

theorem actCreate_allPoints : (actCreate body s).state.allPoints = s.allPoints := by
  have claimed (key : Key) (policy : Policy) (pin : Bool) (values : Option Values) :
      (s.createClaim key policy pin values).state.allPoints = s.allPoints := by
    simp only [State.createClaim]
    (repeat' split)
    next => rfl
    next => rfl
    next free => exact s.createRecord_allPoints (State.lowestFree_some.1 free).2.1 rfl
  simp only [actCreate]
  (repeat' split)
  · rfl
  · rfl
  · rfl
  · exact claimed _ _ _ _
  · exact claimed _ _ _ _
  · rfl

theorem State.TableOk.actLoad_allPoints (ok : s.TableOk) : (actLoad body s).state.allPoints = s.allPoints := by
  simp only [actLoad]
  (repeat' split)
  · rfl
  · rfl
  · rfl
  · exact State.onRecord_allPoints fun slot r hr => ok.load_allPoints hr _ _

theorem State.TableOk.actRetire_allPoints (ok : s.TableOk) : (actRetire body s).state.allPoints = s.allPoints := by
  simp only [actRetire, State.keyRequest]
  (repeat' split)
  · rfl
  · rfl
  · exact State.onRecord_allPoints fun slot r hr => ok.retire_allPoints hr .aborted

theorem actSetPolicy_allPoints : (actSetPolicy body s).state.allPoints = s.allPoints := by
  simp only [actSetPolicy]
  (repeat' split)
  · rfl
  · rfl
  · exact State.onRecord_allPoints fun slot r _ => State.allPoints_congr (by simp)
  · rfl

theorem actRefresh_allPoints : (actRefresh body s).state.allPoints = s.allPoints := by
  obtain same | ⟨slot, r, claimed⟩ := actRefresh_state s body
  · rw [same]
  · exact State.allPoints_congr (by simp [claimed])

theorem actRefreshScope_allPoints : (actRefreshScope body s).state.allPoints = s.allPoints := by
  simp only [actRefreshScope]
  (repeat' split)
  · rfl
  · rfl
  · rfl
  · exact State.allPoints_congr ⟨State.markPass_poolFree (State.mark_shape .host) s _,
      State.markPass_points (fun s => s.mark_points .host) s _⟩

theorem actTonePlanSet_allPoints : (actTonePlanSet body s).state.allPoints = s.allPoints := by
  simp only [actTonePlanSet]
  (repeat' split)
  · rfl
  · rfl
  · exact State.allPoints_congr ⟨State.markPass_poolFree State.markAlert_shape _ _,
      State.markPass_points State.markAlert_points _ _⟩
  · rfl
  · rfl

/-! What LEVEL_SET, CONFIG_SET, ALIAS_SET, ALIAS_CLEAR and LINK_CONTROL change moves no point. -/

theorem actLevelSet_allPoints : (actLevelSet body s).state.allPoints = s.allPoints := by
  simp only [actLevelSet]
  (repeat' split) <;> rfl

theorem actConfigSet_allPoints : (actConfigSet body s).state.allPoints = s.allPoints := by
  simp only [actConfigSet]
  (repeat' split) <;> exact State.allPoints_congr (by simp)

theorem actAliasSet_allPoints : (actAliasSet body s).state.allPoints = s.allPoints := by
  simp only [actAliasSet]
  (repeat' split) <;> rfl

theorem actAliasClear_allPoints : (actAliasClear body s).state.allPoints = s.allPoints := by
  simp only [actAliasClear, State.indexRequest]
  (repeat' split) <;> rfl

theorem actLinkControl_allPoints : (actLinkControl body s).state.allPoints = s.allPoints := by
  simp only [actLinkControl]
  (repeat' split) <;> exact State.allPoints_congr (by simp)

/-- A reset empties the table and gives the pool every point (R45). -/
theorem State.softResetTable_allPoints (s : State) : s.softResetTable.allPoints = 2048 := rfl

theorem State.softResetFull_allPoints (s : State) : s.softResetFull.allPoints = 2048 :=
  (State.allPoints_congr (s := s.softResetTable) (by simp [State.softResetFull])).trans s.softResetTable_allPoints

end

namespace State.PoolOk

variable {s t : State} (h : s.PoolOk)
include h

theorem tableOk : s.TableOk := h.1

theorem allPoints : s.allPoints = 2048 := h.2

/-- Nothing that the pool's account reads has changed. -/
theorem frame (same : t.table = s.table ∧ t.poolFree = s.poolFree) : t.PoolOk :=
  ⟨h.tableOk.of_table same.1, by rw [same.1, same.2]; exact h.2⟩

theorem actSoftReset_allPoints (body : List Byte) : (actSoftReset body s).state.allPoints = 2048 := by
  simp only [actSoftReset]
  (repeat' split)
  · exact h.allPoints
  · exact h.allPoints
  · exact (State.allPoints_congr (s := s.softResetFull) (by simp)).trans s.softResetFull_allPoints
  · exact (State.allPoints_congr (s := s.softResetTable) (by simp)).trans s.softResetTable_allPoints

theorem actByKind_allPoints (kind : Byte) (body : List Byte) : (actByKind kind body s).state.allPoints = 2048 := by
  simp only [actByKind]
  split
  next act found =>
    simp only [actOf?] at found
    split at found <;> cases found
    · exact (actCreate_allPoints body).trans h.allPoints
    · exact (h.tableOk.actLoad_allPoints body).trans h.allPoints
    · rw [actRead_state, h.allPoints]
    · exact (h.tableOk.actRetire_allPoints body).trans h.allPoints
    · exact (actSetPolicy_allPoints body).trans h.allPoints
    · exact (actRefresh_allPoints body).trans h.allPoints
    · exact (actRefreshScope_allPoints body).trans h.allPoints
    · rw [actScan_state, h.allPoints]
    · exact (actAliasSet_allPoints body).trans h.allPoints
    · exact (actAliasClear_allPoints body).trans h.allPoints
    · rw [actAliasRead_state, h.allPoints]
    · exact (actTonePlanSet_allPoints body).trans h.allPoints
    · rw [actTonePlanRead_state, h.allPoints]
    · exact (actLevelSet_allPoints body).trans h.allPoints
    · rw [actLevelRead_state, h.allPoints]
    · exact (actConfigSet_allPoints body).trans h.allPoints
    · rw [actConfigGet_state, h.allPoints]
    · exact (actLinkControl_allPoints body).trans h.allPoints
    · rw [actStatus_state, h.allPoints]
    · exact h.actSoftReset_allPoints body
  next => exact h.allPoints

theorem takeRequest_allPoints (kind : Byte) (body : List Byte) :
    (s.takeRequest kind body (actByKind kind)).allPoints = 2048 := by
  have begun : s.beginRequest.PoolOk := h.frame (by simp)
  simp only [State.takeRequest]
  split
  · exact (State.allPoints_congr (by simp)).trans (begun.actByKind_allPoints kind body)
  · exact h.allPoints

/-! ## The commands -/

theorem running_allPoints {s' : State} (h' : s'.allPoints = 2048) (e : whileRunning s s' = .next t) : t.allPoints = 2048 := by
  simp only [whileRunning, Host.Outcome.next.injEq] at e
  subst e
  split
  · exact h'
  · exact h.allPoints

/-- A command that is no request and moves no point. -/
theorem still_allPoints {s' : State} (same : s'.allPoints = s.allPoints) (e : whileRunning s s' = .next t) : t.allPoints = 2048 :=
  h.running_allPoints (same.trans h.allPoints) e

theorem exec_allPoints {c : Instr} (e : exec c s = .next t) : t.allPoints = 2048 := by
  cases row : requestOf c with
  | some request =>
    rw [exec_request (kind := request.1) (body := request.2) row] at e
    exact h.running_allPoints (h.takeRequest_allPoints request.1 request.2) e
  | none =>
    cases c with
    | powerOnReset =>
      cases e
      rfl
    | rstNAsserted =>
      cases e
      exact h.allPoints
    | requestWrite | replyRead | portStatus | commandByteUnknown | outboundFrameSent | retryCountdownExpiry =>
      exact h.still_allPoints (State.allPoints_congr (by simp)) e
    | epochExpiry => exact h.still_allPoints (State.allPoints_congr (by simp [State.offerWaiting])) e
    | dispatch => exact h.still_allPoints (State.allPoints_congr (by simp [State.consider])) e
    | partnerCheck | requestTimerExpiry | waitTimerExpiry | helloTimerExpiry | frameCheckFailure | incompleteFrame =>
      refine h.still_allPoints (State.allPoints_congr ?_) e
      (repeat' split) <;> simp
    | helloAck => exact h.still_allPoints (h.tableOk.arrive_allPoints _ _ _ fun _ => State.allPoints_congr (by simp)) e
    | unknownFrameKind link kind body =>
      exact h.still_allPoints (h.tableOk.arrive_allPoints _ _ _ fun ok => ok.takeFrame_allPoints link kind body) e
    | lookup link tag channel tone gain =>
      exact h.still_allPoints (h.tableOk.arriveUp_allPoints _ _ _ fun ok => ok.lookup_allPoints link tag channel tone gain) e
    | calResult link number condition first second =>
      exact h.still_allPoints
        (h.tableOk.arriveUp_allPoints _ _ _ fun ok => ok.calResult_allPoints link number condition first second) e
    | calDeclined | driftAlert | goodbye =>
      exact h.still_allPoints (h.tableOk.arriveUp_allPoints _ _ _ fun _ => State.allPoints_congr (by simp)) e
    | _ => cases row

theorem step_allPoints (e : step s = .next t) : t.allPoints = 2048 := by
  simp only [Machine.step] at e
  split at e
  · cases e
    exact h.allPoints
  next rest _ =>
    have popped : ({ s with pending := rest } : State).PoolOk := h
    exact popped.exec_allPoints e

end State.PoolOk

/-- Settles O5: a step keeps the table's form, and the pool's account with it. -/
theorem pointPoolStaysConserved : Obligations.PointPoolStaysConserved :=
  fun _ _ ok stepped => State.poolOk_iff.2 ⟨tableOk_kept.step ok.1 stepped, State.PoolOk.step_allPoints ok stepped⟩

end Sys2Proof.Machine
end

section
/-! SOFT_RESET (O41, O42). Each of its claims acts on one link at a time and reads one free value, so what becomes of a link is a function
of the link and of that value. -/

namespace Sys2Proof.Machine

/-! ## Removals, as a function of the queue (R143) -/

/-- A link's outbound queue after a removal, by whether its head message is in transmission. -/
def afterRemoval (sending : Bool) (p : OutMsg → Bool) : List OutMsg → List OutMsg
  | [] => []
  | m :: rest =>
    (if p m then if sending then [{ m with orphan := true }] else [] else [m]) ++ rest.filter fun x => !p x

/-- Whether the head message of a link's queue is in transmission in the claim that is being taken (log 7). -/
def State.sending (s : State) (l : LinkId) : Bool := Config.headInTransmission s.freeCount l

theorem State.sending_congr {s t : State} (claim : t.freeCount = s.freeCount) (l : LinkId) : t.sending l = s.sending l := by
  rw [State.sending, claim, State.sending]

theorem State.removeOut_link_self (s : State) (l : LinkId) (p : OutMsg → Bool) :
    (s.removeOut l p).link l = { s.link l with out := afterRemoval (s.sending l) p (s.link l).out } := by
  simp only [State.removeOut, State.sending]
  split
  next out => rw [out, afterRemoval, ← out]
  next m rest out =>
    rw [out, afterRemoval]
    by_cases reached : p m = true
    · cases sending : Config.headInTransmission s.freeCount l <;> simp [reached]
    · simp [reached]

theorem State.removeOut_out (s : State) (l : LinkId) (p : OutMsg → Bool) :
    ((s.removeOut l p).link l).out = afterRemoval (s.sending l) p (s.link l).out := by rw [State.removeOut_link_self]

/-- A removal that reaches no message. -/
theorem afterRemoval_of_unmet (sending : Bool) {p : OutMsg → Bool} {out : List OutMsg} (unmet : ∀ m ∈ out, p m = false) :
    afterRemoval sending p out = out := by
  cases out with
  | nil => rfl
  | cons m rest =>
    rw [List.forall_mem_cons] at unmet
    have rest_unmet : (rest.filter fun x => !p x) = rest := List.filter_eq_self.2 fun x hx => by simp [unmet.2 x hx]
    simp [afterRemoval, unmet.1, rest_unmet]

/-- A second removal of the same messages under the same free value reaches none. -/
theorem afterRemoval_twice (sending : Bool) {p : OutMsg → Bool} (waits : ∀ m, p m = true → m.orphan = false) (out : List OutMsg) :
    afterRemoval sending p (afterRemoval sending p out) = afterRemoval sending p out := by
  refine afterRemoval_of_unmet sending fun x hx => ?_
  cases out with
  | nil => cases hx
  | cons m rest =>
    rcases List.mem_append.1 hx with head | tail
    · by_cases reached : p m = true
      · cases sending
        · simp [reached] at head
        · simp only [reached, if_true, List.mem_singleton] at head
          rw [head, ← Bool.not_eq_true]
          exact fun again => Bool.noConfusion (waits _ again)
      · rw [if_neg reached, List.mem_singleton] at head
        rwa [head, ← Bool.not_eq_true]
    · simpa using List.of_mem_filter tail

/-! ## Operations on one link at a time -/

/-- An operation that changes one link alone, by the free value of its claim. -/
structure ActsOnLink (op : State → LinkId → State) (g : LinkId → Bool → Link → Link) : Prop where
  self (s : State) (l : LinkId) : (op s l).link l = g l (s.sending l) (s.link l)
  other (s : State) {l m : LinkId} : m ≠ l → (op s l).link m = s.link m
  claim (s : State) (l : LinkId) : (op s l).freeCount = s.freeCount

namespace ActsOnLink

variable {op : State → LinkId → State} {g : LinkId → Bool → Link → Link} (acts : ActsOnLink op g)
include acts

theorem foldl_claim (links : List LinkId) (s : State) : (links.foldl op s).freeCount = s.freeCount := by
  induction links generalizing s with
  | nil => rfl
  | cons l rest ih => exact (ih (op s l)).trans (acts.claim s l)

theorem foldl_other {links : List LinkId} {m : LinkId} (hm : m ∉ links) (s : State) : (links.foldl op s).link m = s.link m := by
  induction links generalizing s with
  | nil => rfl
  | cons l rest ih =>
    rw [List.mem_cons, not_or] at hm
    exact (ih hm.2 (op s l)).trans (acts.other s hm.1)

/-- Over several links, each is acted on as it was before. -/
theorem foldl_self {links : List LinkId} (once : links.Nodup) {m : LinkId} (hm : m ∈ links) (s : State) :
    (links.foldl op s).link m = g m (s.sending m) (s.link m) := by
  induction links generalizing s with
  | nil => cases hm
  | cons l rest ih =>
    obtain ⟨fresh, once⟩ := List.nodup_cons.1 once
    rw [List.foldl_cons]
    by_cases self : m = l
    · subst self
      rw [acts.foldl_other fresh, acts.self]
    · have same : (op s l).sending m = s.sending m := by rw [State.sending, acts.claim, State.sending]
      rw [ih once (List.mem_of_ne_of_mem self hm), acts.other s self, same]

end ActsOnLink

/-- The links in ascending order. -/
abbrev allLinks : List LinkId := [0, 1, 2, 3]

theorem mem_allLinks (l : LinkId) : l ∈ allLinks := by revert l; decide

/-! ## SOFT_RESET TABLE (R116, R162) -/

/-- A link whose CAL_REQUESTs are removed and that awaits no number. -/
def Link.requestsCleared (sending : Bool) (lk : Link) : Link :=
  { lk with awaited := none, out := afterRemoval sending OutMsg.isCalRequest lk.out }

theorem Link.requestsCleared_twice (sending : Bool) (lk : Link) :
    (lk.requestsCleared sending).requestsCleared sending = lk.requestsCleared sending := by
  simp only [Link.requestsCleared, afterRemoval_twice sending fun _ => OutMsg.isCalRequest_waits]

theorem State.clearRequests_acts : ActsOnLink State.clearRequests fun _ => Link.requestsCleared where
  self s l := by simp [State.clearRequests, State.removeOut_link_self, Link.requestsCleared]
  other s _ _ := s.clearRequests_link_other
  claim s l := by simp [State.clearRequests]

theorem State.haltEngine_claim (s : State) (e : EngineId) : (s.haltEngine e).freeCount = s.freeCount := by
  simp only [State.haltEngine]
  split <;> simp [State.stopEngine]

/-- An engine that halts clears the requests of its sweep's link. -/
theorem State.haltEngine_link (s : State) (e : EngineId) (l : LinkId) :
    (s.haltEngine e).link l = s.link l ∨ (s.haltEngine e).link l = (s.link l).requestsCleared (s.sending l) := by
  simp only [State.haltEngine]
  split
  next w _ =>
    by_cases self : l = w.key.link
    · subst self
      right
      rw [State.stopEngine_link_self, State.removeOut_link_self, Link.requestsCleared]
    · exact .inl (s.stopEngine_link_other e w self)
  next => exact .inl rfl

theorem State.haltEngine_requestsCleared (s : State) (e : EngineId) (l : LinkId) :
    ((s.haltEngine e).link l).requestsCleared (s.sending l) = (s.link l).requestsCleared (s.sending l) := by
  obtain same | cleared := s.haltEngine_link e l
  · rw [same]
  · rw [cleared, Link.requestsCleared_twice]

theorem State.softResetTable_eq (s : State) :
    s.softResetTable = (allLinks.foldl State.clearRequests ((s.haltEngine .se0).haltEngine .se1)).clearTable := rfl

/-- SOFT_RESET TABLE does to each link one removal of its requests, whichever engines swept on it. -/
theorem State.softResetTable_link (s : State) (l : LinkId) :
    s.softResetTable.link l = (s.link l).requestsCleared (s.sending l) := by
  obtain ⟨t, ht⟩ : ∃ t, t = (s.haltEngine .se0).haltEngine .se1 := ⟨_, rfl⟩
  have first : (s.haltEngine .se0).sending l = s.sending l := State.sending_congr (s.haltEngine_claim .se0) l
  have second : t.sending l = s.sending l := by rw [ht, State.sending_congr (State.haltEngine_claim _ .se1), first]
  have cleared : s.softResetTable.link l = (allLinks.foldl State.clearRequests t).link l := by simp [State.softResetTable_eq, ht]
  rw [cleared, State.clearRequests_acts.foldl_self (by decide) (mem_allLinks l), second, ht, ← first,
    State.haltEngine_requestsCleared, first, State.haltEngine_requestsCleared]

theorem State.softResetTable_claim (s : State) : s.softResetTable.freeCount = s.freeCount := by
  simp [State.softResetTable_eq, State.clearRequests_acts.claim, State.haltEngine_claim]

/-! ## The request -/

theorem actSoftReset_table (s : State) (id : Byte) :
    actSoftReset [id, 0x00#8] s = s.softResetTable.nextDraw.accept [0x00#8] := rfl

theorem actSoftReset_full (s : State) (id : Byte) :
    actSoftReset [id, 0x01#8] s = s.softResetFull.nextDraw.accept [0x01#8] := rfl

/-- What the removal of the requests leaves of a link (R162). -/
theorem Link.requestsCleared_spec (s : State) (l : LinkId) :
    let lk := (s.link l).requestsCleared (s.sending l)
    (∀ m ∈ lk.out, m.waitingCal = false) ∧ OnlyHeadFinishes (s.link l).out lk.out
      ∧ (lk.out.filter fun m => match m.body with | .calRequest _ => false | _ => true) =
          (s.link l).out.filter fun m => match m.body with | .calRequest _ => false | _ => true := by
  have removed : ((s.link l).requestsCleared (s.sending l)).out = ((s.removeOut l OutMsg.isCalRequest).link l).out :=
    (s.removeOut_out l _).symm
  simp only [removed]
  exact ⟨fun m hm => OutMsg.waitingCal_of_unmet (s.removeOut_out_unmet l _ m hm),
    s.removeOut_onlyHead l _ fun _ => OutMsg.isCalRequest_waits,
    s.removeOut_out_filter l _ fun _ reached => OutMsg.isCalRequest_class (q := fun b => match b with | .calRequest _ => false | _ => true)
      (fun _ => rfl) reached⟩

theorem State.softResetTable_sweep (s : State) (e : EngineId) : s.softResetTable.sweep e = none := by
  cases e <;> simp [State.softResetTable, State.clearTable]

/-- Settles O41: every link is told by its own, and the rest of the claim clears what the table, the queue and the engines hold. -/
theorem softResetTableClearsRecords : Obligations.SoftResetTableClearsRecords := by
  intro s id takes
  obtain ⟨u, hu⟩ : ∃ u, u = s.beginRequest.softResetTable := ⟨_, rfl⟩
  have link (l : LinkId) : u.link l = (s.link l).requestsCleared (s.sending l) := by
    simp [hu, State.softResetTable_link, State.sending]
  have sweep (e : EngineId) : u.sweep e = none := hu ▸ State.softResetTable_sweep _ e
  have answered := State.whileRunning_takes (kind := kindSoftReset) takes actSoftReset
  rw [actSoftReset_table, State.accept_state, ← hu, State.joinReply_host (s := s) (by simp [hu])] at answered
  refine ⟨_, answered, ?table, ?pool, ?queue, sweep .se0, sweep .se1, fun l => ?link, ?frame⟩
  case table | pool | queue => rw [hu]; rfl
  case link =>
    obtain ⟨requests, onlyHead, others⟩ := Link.requestsCleared_spec s l
    rw [← link] at requests onlyHead others
    have rest : { u.link l with awaited := (s.link l).awaited, out := (s.link l).out } = s.link l := by rw [link]; rfl
    exact ⟨congrArg Link.awaited (link l), requests, onlyHead, rest, others⟩
  case frame =>
    have due : u.considerDue = false := by rw [hu]; rfl
    exact ⟨by simp [hu], by simp [hu], by simp [hu], by simp [hu], by simp [hu], due, rfl⟩

/-! ## SOFT_RESET FULL: the links (R117, R163) -/

/-- The messages that a reset removes from a link's queue: the CORRECTIONs of an UP link, the HELLOs of a DOWN one. -/
def LinkState.resetRemoves : LinkState → OutMsg → Bool
  | .up => OutMsg.isCorrection
  | .down => OutMsg.isHello
  | .off => fun _ => false

theorem OutMsg.isHello_waits {m : OutMsg} (h : m.isHello = true) : m.orphan = false := by
  rw [OutMsg.isHello, Bool.and_eq_true] at h
  simpa using h.1

theorem LinkState.resetRemoves_waits {st : LinkState} {m : OutMsg} (h : st.resetRemoves m = true) : m.orphan = false := by
  cases st with
  | up => exact OutMsg.isCorrection_waits h
  | down => exact OutMsg.isHello_waits h
  | off => cases h

/-- Only a DOWN link's HELLOs are removed. -/
theorem LinkState.resetRemoves_other {st : LinkState} (on : st ≠ .down) {m : OutMsg} (h : st.resetRemoves m = true) :
    m.waitingHello = false ∧ ({ m with orphan := true } : OutMsg).waitingHello = false := by
  refine ⟨?_, rfl⟩
  cases st with
  | up =>
    cases body : m.body with
    | correction c => simp [OutMsg.waitingHello, OutMsg.helloOf, body]
    | _ => simp [LinkState.resetRemoves, OutMsg.isCorrection, body] at h
  | down => exact absurd rfl on
  | off => cases h

/-- A link that SOFT_RESET FULL takes DOWN afresh. -/
def Link.fullyReset (l : LinkId) (sending : Bool) (lk : Link) : Link :=
  { lk with
    state := .down
    partner := none
    awaited := if lk.state = .up then none else lk.awaited
    timeouts := 0
    faults := 0
    tags := if lk.state = .up then [] else lk.tags
    out := afterRemoval sending lk.state.resetRemoves lk.out ++ [{ body := .hello l, orphan := false }]
    hello := some 10
    refusalReported := false
    rx := if lk.state = .off then [] else lk.rx }

/-- The LINK_STATE notice of a link at SOFT_RESET FULL; a DOWN link gives none. -/
def Link.resetNotice (l : LinkId) (lk : Link) : Option Notice :=
  match lk.state with
  | .up => some (.linkState l .down .reset 0x00#8 0x00#8 0x00#8 lk.faults lk.timeouts)
  | .off => some (.linkState l .down .reset 0x00#8 0x00#8 0x00#8 0 0)
  | .down => none

theorem State.resetLink_acts : ActsOnLink State.resetLink Link.fullyReset where
  self s l := by
    rw [State.resetLink]
    cases state : (s.link l).state with
    | up =>
      simp [State.departUp_link_self, State.removeOut_link_self, Link.afterFullReset, Link.fullyReset, state, LinkState.resetRemoves]
    | down =>
      simp [State.enterDown, State.removeOut_link_self, Link.afterFullReset, Link.fullyReset, state, LinkState.resetRemoves]
    | off =>
      simp [State.startReceiver_enterDown, Link.reentered, Link.afterFullReset, Link.fullyReset, state, LinkState.resetRemoves,
        afterRemoval_of_unmet]
  other s _ _ := s.resetLink_link_other
  claim s l := by
    rw [State.resetLink]
    split <;> simp [State.departUp]

theorem State.resetLink_host (s : State) (l : LinkId) :
    (s.resetLink l).host = s.host.emitted s.params.noticeMask ((s.link l).resetNotice l).toList := by
  rw [State.resetLink]
  cases state : (s.link l).state with
  | up => simp [State.departUp_host, Link.resetNotice, state, departureNotice]
  | down => simp [Link.resetNotice, state, HostPort.emitted]
  | off => simp [State.emit_host, Link.resetNotice, state]

/-- The notices join in the order of the links (log 15). -/
theorem State.resetLinks_host {links : List LinkId} (once : links.Nodup) (s : State) :
    (links.foldl State.resetLink s).host =
      s.host.emitted s.params.noticeMask (links.filterMap fun l => (s.link l).resetNotice l) := by
  induction links generalizing s with
  | nil => rfl
  | cons l rest ih =>
    obtain ⟨fresh, once⟩ := List.nodup_cons.1 once
    have others : (rest.filterMap fun m => ((s.resetLink l).link m).resetNotice m) =
        rest.filterMap fun m => (s.link m).resetNotice m :=
      List.filterMap_congr fun m hm => by rw [s.resetLink_link_other (ne_of_mem_of_not_mem hm fresh)]
    rw [List.foldl_cons, ih once, others, State.resetLink_host, (by simp : (s.resetLink l).params = s.params),
      HostPort.emitted_emitted]
    cases notice : (s.link l).resetNotice l <;> simp [notice]

/-- What SOFT_RESET FULL leaves of a link, the two removals of its claim under one free value (R163). -/
theorem Link.fullyReset_spec (s : State) (l : LinkId) :
    let lk := ((s.link l).requestsCleared (s.sending l)).fullyReset l (s.sending l)
    lk.out.getLast? = some { body := .hello l, orphan := false }
      ∧ (∀ m ∈ lk.out, m.waitingCal = false) ∧ OnlyHeadFinishes (s.link l).out lk.out
      ∧ lk.out.filter (·.waitingHello) =
          (if (s.link l).state = .down then [] else (s.link l).out.filter (·.waitingHello)) ++ [{ body := .hello l, orphan := false }]
      ∧ ((s.link l).state = .up → lk.tags = [] ∧ ∀ m ∈ lk.out, m.waitingCorrection = false) := by
  obtain ⟨u, hu⟩ : ∃ u, u = s.removeOut l OutMsg.isCalRequest := ⟨_, rfl⟩
  obtain ⟨t, ht⟩ : ∃ t, t = u.removeOut l (s.link l).state.resetRemoves := ⟨_, rfl⟩
  have claim : u.freeCount = s.freeCount := by simp [hu]
  have out : (((s.link l).requestsCleared (s.sending l)).fullyReset l (s.sending l)).out =
      (t.link l).out ++ [{ body := .hello l, orphan := false }] := by
    rw [ht, State.removeOut_out, State.sending_congr claim, hu, State.removeOut_out]
    rfl
  simp only [out]
  refine ⟨List.getLast?_concat, ?requests, ?head, ?hellos, fun up => ⟨if_pos up, ?corrections⟩⟩
  case requests =>
    intro m hm
    rcases List.mem_append.1 hm with stood | joined
    · refine OutMsg.waitingCal_of_unmet fun waits => ?_
      have stayed := u.removeOut_out_mem l _ m (ht ▸ stood) waits
      exact s.removeOut_out_unmet l _ m (hu ▸ stayed) waits
    · rw [List.mem_singleton.1 joined]
      rfl
  case head =>
    refine onlyHeadFinishes_append ?_ rfl
    rw [ht]
    exact State.removeOut_onlyHead_twice (fun _ => OutMsg.isCalRequest_waits) (fun _ => LinkState.resetRemoves_waits) (by rw [hu]) claim
  case hellos =>
    rw [List.filter_append]
    refine congrArg (· ++ [_]) ?_
    split
    next down =>
      refine List.filter_eq_nil_iff.2 fun m hm met => ?_
      have waits : m.orphan = false := by simpa using (Bool.and_eq_true_iff.1 met).1
      have unmet : m.isHello = false := by
        rw [ht, down] at hm
        exact u.removeOut_out_unmet l _ m hm waits
      exact Bool.noConfusion (unmet.symm.trans met)
    next on =>
      rw [ht, u.removeOut_out_filter l _ fun m => LinkState.resetRemoves_other on, hu]
      refine s.removeOut_out_filter l _ fun m reached => ⟨?_, rfl⟩
      have other : m.helloOf = false :=
        (OutMsg.isCalRequest_class (q := fun body => ({ body := body, orphan := false } : OutMsg).helloOf) (fun _ => rfl) reached).1
      rw [OutMsg.waitingHello, other, Bool.and_false]
  case corrections =>
    intro m hm
    rcases List.mem_append.1 hm with stood | joined
    · rw [ht, up] at stood
      exact OutMsg.waitingCorrection_of_unmet (u.removeOut_out_unmet l _ m stood)
    · rw [List.mem_singleton.1 joined]
      rfl

/-! ## SOFT_RESET FULL: the claim (R198) -/

/-- The part whose tables, engines, store and timer are cleared, its links still to be taken DOWN. -/
def State.blank (s : State) : State :=
  (((s.softResetTable.withEpochCount 0).withStore Store.defaults).withAliases (Vector.replicate 8 none)).withEpoch
    { length := Params.defaults.epochMs, left := Params.defaults.epochMs }

theorem State.softResetFull_eq (s : State) : s.softResetFull = allLinks.foldl State.resetLink s.blank := by
  simp only [State.softResetFull, State.blank, List.foldl_cons, List.foldl_nil]

/-- What the cleared part holds. -/
theorem State.blank_spec (s : State) :
    s.blank.table = [] ∧ s.blank.poolFree = 2048 ∧ s.blank.queue = { prio := [], back := [] } ∧ s.blank.se0 = none ∧ s.blank.se1 = none
      ∧ s.blank.epochCount = 0 ∧ s.blank.epoch = { length := 1000, left := 1000 } ∧ s.blank.store = Store.defaults
      ∧ s.blank.aliases = Vector.replicate 8 none ∧ s.blank.rstN = s.rstN ∧ s.blank.considerDue = false := by
  have se0 : s.softResetTable.se0 = none := s.softResetTable_sweep .se0
  have se1 : s.softResetTable.se1 = none := s.softResetTable_sweep .se1
  have epochMs : Params.defaults.epochMs = 1000 := rfl
  simpa [State.blank, State.softResetTable_eq, State.clearTable, epochMs] using And.intro se0 se1

/-- Of the cleared part the links going DOWN change the links and the Host Port alone. -/
theorem State.softResetFull_spec (s : State) :
    let t := s.softResetFull
    t.table = [] ∧ t.poolFree = 2048 ∧ t.queue = { prio := [], back := [] } ∧ t.se0 = none ∧ t.se1 = none
      ∧ t.epochCount = 0 ∧ t.epoch = { length := 1000, left := 1000 } ∧ t.store = Store.defaults
      ∧ t.aliases = Vector.replicate 8 none ∧ t.rstN = s.rstN ∧ t.considerDue = false := by
  simp [State.softResetFull_eq, State.blank_spec]

theorem State.blank_link (s : State) (l : LinkId) : s.blank.link l = (s.link l).requestsCleared (s.sending l) := by
  simp [State.blank, State.softResetTable_link]

theorem State.softResetFull_link (s : State) (l : LinkId) :
    s.softResetFull.link l = ((s.link l).requestsCleared (s.sending l)).fullyReset l (s.sending l) := by
  have claim : s.blank.sending l = s.sending l := State.sending_congr (by simp [State.blank, s.softResetTable_claim]) l
  rw [State.softResetFull_eq, State.resetLink_acts.foldl_self (by decide) (mem_allLinks l), s.blank_link, claim]

theorem State.softResetFull_host (s : State) :
    s.softResetFull.host = s.host.emitted 107 (allLinks.filterMap fun l => (s.link l).resetNotice l) := by
  rw [State.softResetFull_eq, State.resetLinks_host (by decide)]
  simp only [State.blank_link]
  have host : s.blank.host = s.host := by simp [State.blank]
  rw [host]
  rfl

/-- Settles O42: the links are taken DOWN one by one from the part that is otherwise cleared. -/
theorem softResetFullRestartsPart : Obligations.SoftResetFullRestartsPart := by
  intro s id takes
  obtain ⟨u, hu⟩ : ∃ u, u = s.beginRequest.softResetFull := ⟨_, rfl⟩
  have link (l : LinkId) : u.link l = ((s.link l).requestsCleared (s.sending l)).fullyReset l (s.sending l) := by
    simp [hu, State.softResetFull_link, State.sending]
  have host : u.host = s.beginRequest.host.emitted 107 (allLinks.filterMap fun l => (s.link l).resetNotice l) := by
    simp [hu, State.softResetFull_host]
  obtain ⟨table, pool, queue, se0, se1, epochCount, epoch, store, aliases, rstN, due⟩ := hu ▸ s.beginRequest.softResetFull_spec
  have answered := State.whileRunning_takes (kind := kindSoftReset) takes actSoftReset
  rw [actSoftReset_full, State.accept_state, ← hu] at answered
  refine ⟨_, answered, table, pool, queue, se0, se1, epochCount, epoch, store, ?aliases, ?rstN, due, fun l => ?link, ?host⟩
  case aliases =>
    intro i
    have cleared : u.aliases[i] = none := by rw [aliases]; exact Vector.getElem_replicate _
    exact cleared
  case rstN => exact rstN.trans (by simp)
  case link =>
    obtain ⟨joined, requests, onlyHead, hellos, up⟩ := Link.fullyReset_spec s l
    rw [← link] at joined requests onlyHead hellos up
    have awaited : (u.link l).awaited = none := by
      rw [link]
      exact ite_self none
    have sequence : (u.link l).sequence = (s.link l).sequence := by rw [link]; rfl
    exact ⟨congrArg Link.state (link l), congrArg Link.partner (link l), awaited, congrArg Link.timeouts (link l),
      congrArg Link.faults (link l), congrArg Link.hello (link l), congrArg Link.refusalReported (link l),
      sequence, joined, requests, onlyHead, hellos, up⟩
  case host =>
    have replied : (u.nextDraw.joinReply { kind := 0x14#8, id := id, status := .ok, payload := [0x01#8] }).host =
        s.answered 107 (allLinks.filterMap fun l => (s.link l).resetNotice l)
          { kind := 0x14#8, id := id, status := .ok, payload := [0x01#8] } := by
      simp [State.joinReply, host, State.answered, State.beginRequest_eq]
    exact replied

end Sys2Proof.Machine
end
